-- ==== Sys2Proof/Word.lean ====
section
/-!
DEFINITION. The machine's word types (00_scope.md R5: data width 8 bits, CPU address width 16 bits, PPU address width 14
bits).
-/

namespace Sys2Proof

/-- A byte: every register but `PC`, every memory cell (R5). -/
abbrev Byte := BitVec 8

/-- A CPU address, and `PC` (R5, R11). -/
abbrev Word := BitVec 16

/-- A video-bus address (R5, R40). -/
abbrev VideoAddr := BitVec 14

/-- What a frame-buffer element holds: the 6-bit index of `Colour` (R236, D26; log 5). -/
abbrev Pixel := BitVec 6

end Sys2Proof
end

