-- ==== Sys2Proof/Syntax.lean ====
section
/-!
DEFINITION. The syntax of the instruction set: memory addressing modes, operands, mnemonics, and `Instr` with one
constructor per row of `spec/opcode_table.json` (30_encoding.md R70, R73, R86, R87).
-/

namespace Sys2Proof

/-- The memory addressing modes with their operand bytes (R76 to R79, R81, R82). -/
inductive MemMode where
  | zp (d : Byte)
  | zpx (d : Byte)
  | zpy (d : Byte)
  | abs (a : Word)
  | abx (a : Word)
  | aby (a : Word)
  | izx (d : Byte)
  | izy (d : Byte)
deriving DecidableEq, Repr

/-- What a read instruction takes its byte `M` from: the immediate byte (R75) or memory (R85). -/
inductive Operand where
  | imm (v : Byte)
  | mem (m : MemMode)
deriving DecidableEq, Repr

/-- The thirteen modes of R73 with their operand bytes; the eight memory modes stand under `mem`. -/
inductive Mode where
  | imp
  | acc
  | imm (v : Byte)
  | mem (m : MemMode)
  | ind (a : Word)
  | rel (off : Byte)
deriving DecidableEq, Repr

/-- A read operand as a mode. -/
def Operand.mode : Operand → Mode
  | .imm v => .imm v
  | .mem m => .mem m

/-- The keys of R73's table: a mode without its operand bytes. -/
inductive ModeKey where
  | imp | acc | imm | zp | zpx | zpy | abs | abx | aby | ind | izx | izy | rel
deriving DecidableEq, Repr

/-- The key of a memory mode. -/
def MemMode.key : MemMode → ModeKey
  | .zp _ => .zp
  | .zpx _ => .zpx
  | .zpy _ => .zpy
  | .abs _ => .abs
  | .abx _ => .abx
  | .aby _ => .aby
  | .izx _ => .izx
  | .izy _ => .izy

/-- The key of a mode. -/
def Mode.key : Mode → ModeKey
  | .imp => .imp
  | .acc => .acc
  | .imm _ => .imm
  | .mem m => m.key
  | .ind _ => .ind
  | .rel _ => .rel

/-- The 56 mnemonics of R86, and one name for the 105 unassigned opcodes (R186). -/
inductive Mnemonic where
  | lda | ldx | ldy | sta | stx | sty | tax | tay | txa | tya | tsx | txs
  | adc | sbc | and | ora | eor | cmp | cpx | cpy | bit | inc | dec | inx | iny | dex | dey
  | asl | lsr | rol | ror
  | bpl | bmi | bvc | bvs | bcc | bcs | bne | beq | jmp | jsr | rts
  | pha | php | pla | plp | clc | sec | cli | sei | cld | sed | clv | nop | brk | rti
  | unassigned
deriving DecidableEq, Repr

/-- An instruction: one constructor per opcode value, with its operand byte or 16-bit operand. The constructors that
carry an operand stand first. `<mnemonic><Mode>` where a mnemonic has several modes, the mnemonic alone where it has
one (R86); `unassignedXX` is the unassigned opcode `$XX` (R87). -/
inductive Instr where
  | ldaIzx (d : Byte)
  | ldaZp (d : Byte)
  | ldaImm (v : Byte)
  | ldaAbs (a : Word)
  | ldaIzy (d : Byte)
  | ldaZpx (d : Byte)
  | ldaAby (a : Word)
  | ldaAbx (a : Word)
  | ldxImm (v : Byte)
  | ldxZp (d : Byte)
  | ldxAbs (a : Word)
  | ldxZpy (d : Byte)
  | ldxAby (a : Word)
  | ldyImm (v : Byte)
  | ldyZp (d : Byte)
  | ldyAbs (a : Word)
  | ldyZpx (d : Byte)
  | ldyAbx (a : Word)
  | staIzx (d : Byte)
  | staZp (d : Byte)
  | staAbs (a : Word)
  | staIzy (d : Byte)
  | staZpx (d : Byte)
  | staAby (a : Word)
  | staAbx (a : Word)
  | stxZp (d : Byte)
  | stxAbs (a : Word)
  | stxZpy (d : Byte)
  | styZp (d : Byte)
  | styAbs (a : Word)
  | styZpx (d : Byte)
  | adcIzx (d : Byte)
  | adcZp (d : Byte)
  | adcImm (v : Byte)
  | adcAbs (a : Word)
  | adcIzy (d : Byte)
  | adcZpx (d : Byte)
  | adcAby (a : Word)
  | adcAbx (a : Word)
  | sbcIzx (d : Byte)
  | sbcZp (d : Byte)
  | sbcImm (v : Byte)
  | sbcAbs (a : Word)
  | sbcIzy (d : Byte)
  | sbcZpx (d : Byte)
  | sbcAby (a : Word)
  | sbcAbx (a : Word)
  | andIzx (d : Byte)
  | andZp (d : Byte)
  | andImm (v : Byte)
  | andAbs (a : Word)
  | andIzy (d : Byte)
  | andZpx (d : Byte)
  | andAby (a : Word)
  | andAbx (a : Word)
  | oraIzx (d : Byte)
  | oraZp (d : Byte)
  | oraImm (v : Byte)
  | oraAbs (a : Word)
  | oraIzy (d : Byte)
  | oraZpx (d : Byte)
  | oraAby (a : Word)
  | oraAbx (a : Word)
  | eorIzx (d : Byte)
  | eorZp (d : Byte)
  | eorImm (v : Byte)
  | eorAbs (a : Word)
  | eorIzy (d : Byte)
  | eorZpx (d : Byte)
  | eorAby (a : Word)
  | eorAbx (a : Word)
  | cmpIzx (d : Byte)
  | cmpZp (d : Byte)
  | cmpImm (v : Byte)
  | cmpAbs (a : Word)
  | cmpIzy (d : Byte)
  | cmpZpx (d : Byte)
  | cmpAby (a : Word)
  | cmpAbx (a : Word)
  | cpxImm (v : Byte)
  | cpxZp (d : Byte)
  | cpxAbs (a : Word)
  | cpyImm (v : Byte)
  | cpyZp (d : Byte)
  | cpyAbs (a : Word)
  | bitZp (d : Byte)
  | bitAbs (a : Word)
  | incZp (d : Byte)
  | incAbs (a : Word)
  | incZpx (d : Byte)
  | incAbx (a : Word)
  | decZp (d : Byte)
  | decAbs (a : Word)
  | decZpx (d : Byte)
  | decAbx (a : Word)
  | aslZp (d : Byte)
  | aslAbs (a : Word)
  | aslZpx (d : Byte)
  | aslAbx (a : Word)
  | lsrZp (d : Byte)
  | lsrAbs (a : Word)
  | lsrZpx (d : Byte)
  | lsrAbx (a : Word)
  | rolZp (d : Byte)
  | rolAbs (a : Word)
  | rolZpx (d : Byte)
  | rolAbx (a : Word)
  | rorZp (d : Byte)
  | rorAbs (a : Word)
  | rorZpx (d : Byte)
  | rorAbx (a : Word)
  | bpl (off : Byte)
  | bmi (off : Byte)
  | bvc (off : Byte)
  | bvs (off : Byte)
  | bcc (off : Byte)
  | bcs (off : Byte)
  | bne (off : Byte)
  | beq (off : Byte)
  | jmpAbs (a : Word)
  | jmpInd (a : Word)
  | jsr (a : Word)
  | tax | tay | txa | tya | tsx | txs | inx | iny | dex | dey | aslAcc | lsrAcc | rolAcc | rorAcc | rts | pha
  | php | pla | plp | clc | sec | cli | sei | cld | sed | clv | nop | brk | rti | unassigned02 | unassigned03
  | unassigned04 | unassigned07 | unassigned0B | unassigned0C | unassigned0F | unassigned12 | unassigned13
  | unassigned14 | unassigned17 | unassigned1A | unassigned1B | unassigned1C | unassigned1F | unassigned22
  | unassigned23 | unassigned27 | unassigned2B | unassigned2F | unassigned32 | unassigned33 | unassigned34
  | unassigned37 | unassigned3A | unassigned3B | unassigned3C | unassigned3F | unassigned42 | unassigned43
  | unassigned44 | unassigned47 | unassigned4B | unassigned4F | unassigned52 | unassigned53 | unassigned54
  | unassigned57 | unassigned5A | unassigned5B | unassigned5C | unassigned5F | unassigned62 | unassigned63
  | unassigned64 | unassigned67 | unassigned6B | unassigned6F | unassigned72 | unassigned73 | unassigned74
  | unassigned77 | unassigned7A | unassigned7B | unassigned7C | unassigned7F | unassigned80 | unassigned82
  | unassigned83 | unassigned87 | unassigned89 | unassigned8B | unassigned8F | unassigned92 | unassigned93
  | unassigned97 | unassigned9B | unassigned9C | unassigned9E | unassigned9F | unassignedA3 | unassignedA7
  | unassignedAB | unassignedAF | unassignedB2 | unassignedB3 | unassignedB7 | unassignedBB | unassignedBF
  | unassignedC2 | unassignedC3 | unassignedC7 | unassignedCB | unassignedCF | unassignedD2 | unassignedD3
  | unassignedD4 | unassignedD7 | unassignedDA | unassignedDB | unassignedDC | unassignedDF | unassignedE2
  | unassignedE3 | unassignedE7 | unassignedEB | unassignedEF | unassignedF2 | unassignedF3 | unassignedF4
  | unassignedF7 | unassignedFA | unassignedFB | unassignedFC | unassignedFF
deriving DecidableEq, Repr

end Sys2Proof
end

