-- ==== Sys2Proof/Decode.lean ====
section
/-!
DEFINITION. Decoding and encoding (30_encoding.md R70 to R73, R86, R87), and the byte-order and sign-extension helpers
they share with the machine (00_scope.md R7, 20_memory.md R52).
-/

namespace Sys2Proof

/-- `u16(hi, lo)` of R7: the low byte lies at the lower address (R52). -/
def u16 (hi lo : Byte) : Word := hi ++ lo

/-- `hi8(v)` of R7. -/
def hi8 (w : Word) : Byte := w.extractLsb' 8 8

/-- `lo8(v)` of R7. -/
def lo8 (w : Word) : Byte := w.extractLsb' 0 8

/-- `sext_8(v)` of R7 as a 16-bit addend. -/
def sext8 (b : Byte) : Word := b.signExtend 16

/-! ## The opcode map of R86 and R87: row = high nibble, column = low nibble; a cell builds the instruction from
operand bytes 1 and 2 (R71). -/

/-- Row `0x` of R86. -/
def opcodeRow0 : List (Byte → Byte → Instr) :=
  [fun _ _ => .brk, fun d _ => .oraIzx d, fun _ _ => .unassigned02, fun _ _ => .unassigned03,
   fun _ _ => .unassigned04, fun d _ => .oraZp d, fun d _ => .aslZp d, fun _ _ => .unassigned07,
   fun _ _ => .php, fun d _ => .oraImm d, fun _ _ => .aslAcc, fun _ _ => .unassigned0B,
   fun _ _ => .unassigned0C, fun lo hi => .oraAbs (u16 hi lo), fun lo hi => .aslAbs (u16 hi lo), fun _ _ => .unassigned0F]

/-- Row `1x` of R86. -/
def opcodeRow1 : List (Byte → Byte → Instr) :=
  [fun d _ => .bpl d, fun d _ => .oraIzy d, fun _ _ => .unassigned12, fun _ _ => .unassigned13,
   fun _ _ => .unassigned14, fun d _ => .oraZpx d, fun d _ => .aslZpx d, fun _ _ => .unassigned17,
   fun _ _ => .clc, fun lo hi => .oraAby (u16 hi lo), fun _ _ => .unassigned1A, fun _ _ => .unassigned1B,
   fun _ _ => .unassigned1C, fun lo hi => .oraAbx (u16 hi lo), fun lo hi => .aslAbx (u16 hi lo), fun _ _ => .unassigned1F]

/-- Row `2x` of R86. -/
def opcodeRow2 : List (Byte → Byte → Instr) :=
  [fun lo hi => .jsr (u16 hi lo), fun d _ => .andIzx d, fun _ _ => .unassigned22, fun _ _ => .unassigned23,
   fun d _ => .bitZp d, fun d _ => .andZp d, fun d _ => .rolZp d, fun _ _ => .unassigned27,
   fun _ _ => .plp, fun d _ => .andImm d, fun _ _ => .rolAcc, fun _ _ => .unassigned2B,
   fun lo hi => .bitAbs (u16 hi lo), fun lo hi => .andAbs (u16 hi lo), fun lo hi => .rolAbs (u16 hi lo), fun _ _ => .unassigned2F]

/-- Row `3x` of R86. -/
def opcodeRow3 : List (Byte → Byte → Instr) :=
  [fun d _ => .bmi d, fun d _ => .andIzy d, fun _ _ => .unassigned32, fun _ _ => .unassigned33,
   fun _ _ => .unassigned34, fun d _ => .andZpx d, fun d _ => .rolZpx d, fun _ _ => .unassigned37,
   fun _ _ => .sec, fun lo hi => .andAby (u16 hi lo), fun _ _ => .unassigned3A, fun _ _ => .unassigned3B,
   fun _ _ => .unassigned3C, fun lo hi => .andAbx (u16 hi lo), fun lo hi => .rolAbx (u16 hi lo), fun _ _ => .unassigned3F]

/-- Row `4x` of R86. -/
def opcodeRow4 : List (Byte → Byte → Instr) :=
  [fun _ _ => .rti, fun d _ => .eorIzx d, fun _ _ => .unassigned42, fun _ _ => .unassigned43,
   fun _ _ => .unassigned44, fun d _ => .eorZp d, fun d _ => .lsrZp d, fun _ _ => .unassigned47,
   fun _ _ => .pha, fun d _ => .eorImm d, fun _ _ => .lsrAcc, fun _ _ => .unassigned4B,
   fun lo hi => .jmpAbs (u16 hi lo), fun lo hi => .eorAbs (u16 hi lo), fun lo hi => .lsrAbs (u16 hi lo), fun _ _ => .unassigned4F]

/-- Row `5x` of R86. -/
def opcodeRow5 : List (Byte → Byte → Instr) :=
  [fun d _ => .bvc d, fun d _ => .eorIzy d, fun _ _ => .unassigned52, fun _ _ => .unassigned53,
   fun _ _ => .unassigned54, fun d _ => .eorZpx d, fun d _ => .lsrZpx d, fun _ _ => .unassigned57,
   fun _ _ => .cli, fun lo hi => .eorAby (u16 hi lo), fun _ _ => .unassigned5A, fun _ _ => .unassigned5B,
   fun _ _ => .unassigned5C, fun lo hi => .eorAbx (u16 hi lo), fun lo hi => .lsrAbx (u16 hi lo), fun _ _ => .unassigned5F]

/-- Row `6x` of R86. -/
def opcodeRow6 : List (Byte → Byte → Instr) :=
  [fun _ _ => .rts, fun d _ => .adcIzx d, fun _ _ => .unassigned62, fun _ _ => .unassigned63,
   fun _ _ => .unassigned64, fun d _ => .adcZp d, fun d _ => .rorZp d, fun _ _ => .unassigned67,
   fun _ _ => .pla, fun d _ => .adcImm d, fun _ _ => .rorAcc, fun _ _ => .unassigned6B,
   fun lo hi => .jmpInd (u16 hi lo), fun lo hi => .adcAbs (u16 hi lo), fun lo hi => .rorAbs (u16 hi lo), fun _ _ => .unassigned6F]

/-- Row `7x` of R86. -/
def opcodeRow7 : List (Byte → Byte → Instr) :=
  [fun d _ => .bvs d, fun d _ => .adcIzy d, fun _ _ => .unassigned72, fun _ _ => .unassigned73,
   fun _ _ => .unassigned74, fun d _ => .adcZpx d, fun d _ => .rorZpx d, fun _ _ => .unassigned77,
   fun _ _ => .sei, fun lo hi => .adcAby (u16 hi lo), fun _ _ => .unassigned7A, fun _ _ => .unassigned7B,
   fun _ _ => .unassigned7C, fun lo hi => .adcAbx (u16 hi lo), fun lo hi => .rorAbx (u16 hi lo), fun _ _ => .unassigned7F]

/-- Row `8x` of R86. -/
def opcodeRow8 : List (Byte → Byte → Instr) :=
  [fun _ _ => .unassigned80, fun d _ => .staIzx d, fun _ _ => .unassigned82, fun _ _ => .unassigned83,
   fun d _ => .styZp d, fun d _ => .staZp d, fun d _ => .stxZp d, fun _ _ => .unassigned87,
   fun _ _ => .dey, fun _ _ => .unassigned89, fun _ _ => .txa, fun _ _ => .unassigned8B,
   fun lo hi => .styAbs (u16 hi lo), fun lo hi => .staAbs (u16 hi lo), fun lo hi => .stxAbs (u16 hi lo), fun _ _ => .unassigned8F]

/-- Row `9x` of R86. -/
def opcodeRow9 : List (Byte → Byte → Instr) :=
  [fun d _ => .bcc d, fun d _ => .staIzy d, fun _ _ => .unassigned92, fun _ _ => .unassigned93,
   fun d _ => .styZpx d, fun d _ => .staZpx d, fun d _ => .stxZpy d, fun _ _ => .unassigned97,
   fun _ _ => .tya, fun lo hi => .staAby (u16 hi lo), fun _ _ => .txs, fun _ _ => .unassigned9B,
   fun _ _ => .unassigned9C, fun lo hi => .staAbx (u16 hi lo), fun _ _ => .unassigned9E, fun _ _ => .unassigned9F]

/-- Row `Ax` of R86. -/
def opcodeRowA : List (Byte → Byte → Instr) :=
  [fun d _ => .ldyImm d, fun d _ => .ldaIzx d, fun d _ => .ldxImm d, fun _ _ => .unassignedA3,
   fun d _ => .ldyZp d, fun d _ => .ldaZp d, fun d _ => .ldxZp d, fun _ _ => .unassignedA7,
   fun _ _ => .tay, fun d _ => .ldaImm d, fun _ _ => .tax, fun _ _ => .unassignedAB,
   fun lo hi => .ldyAbs (u16 hi lo), fun lo hi => .ldaAbs (u16 hi lo), fun lo hi => .ldxAbs (u16 hi lo), fun _ _ => .unassignedAF]

/-- Row `Bx` of R86. -/
def opcodeRowB : List (Byte → Byte → Instr) :=
  [fun d _ => .bcs d, fun d _ => .ldaIzy d, fun _ _ => .unassignedB2, fun _ _ => .unassignedB3,
   fun d _ => .ldyZpx d, fun d _ => .ldaZpx d, fun d _ => .ldxZpy d, fun _ _ => .unassignedB7,
   fun _ _ => .clv, fun lo hi => .ldaAby (u16 hi lo), fun _ _ => .tsx, fun _ _ => .unassignedBB,
   fun lo hi => .ldyAbx (u16 hi lo), fun lo hi => .ldaAbx (u16 hi lo), fun lo hi => .ldxAby (u16 hi lo), fun _ _ => .unassignedBF]

/-- Row `Cx` of R86. -/
def opcodeRowC : List (Byte → Byte → Instr) :=
  [fun d _ => .cpyImm d, fun d _ => .cmpIzx d, fun _ _ => .unassignedC2, fun _ _ => .unassignedC3,
   fun d _ => .cpyZp d, fun d _ => .cmpZp d, fun d _ => .decZp d, fun _ _ => .unassignedC7,
   fun _ _ => .iny, fun d _ => .cmpImm d, fun _ _ => .dex, fun _ _ => .unassignedCB,
   fun lo hi => .cpyAbs (u16 hi lo), fun lo hi => .cmpAbs (u16 hi lo), fun lo hi => .decAbs (u16 hi lo), fun _ _ => .unassignedCF]

/-- Row `Dx` of R86. -/
def opcodeRowD : List (Byte → Byte → Instr) :=
  [fun d _ => .bne d, fun d _ => .cmpIzy d, fun _ _ => .unassignedD2, fun _ _ => .unassignedD3,
   fun _ _ => .unassignedD4, fun d _ => .cmpZpx d, fun d _ => .decZpx d, fun _ _ => .unassignedD7,
   fun _ _ => .cld, fun lo hi => .cmpAby (u16 hi lo), fun _ _ => .unassignedDA, fun _ _ => .unassignedDB,
   fun _ _ => .unassignedDC, fun lo hi => .cmpAbx (u16 hi lo), fun lo hi => .decAbx (u16 hi lo), fun _ _ => .unassignedDF]

/-- Row `Ex` of R86. -/
def opcodeRowE : List (Byte → Byte → Instr) :=
  [fun d _ => .cpxImm d, fun d _ => .sbcIzx d, fun _ _ => .unassignedE2, fun _ _ => .unassignedE3,
   fun d _ => .cpxZp d, fun d _ => .sbcZp d, fun d _ => .incZp d, fun _ _ => .unassignedE7,
   fun _ _ => .inx, fun d _ => .sbcImm d, fun _ _ => .nop, fun _ _ => .unassignedEB,
   fun lo hi => .cpxAbs (u16 hi lo), fun lo hi => .sbcAbs (u16 hi lo), fun lo hi => .incAbs (u16 hi lo), fun _ _ => .unassignedEF]

/-- Row `Fx` of R86. -/
def opcodeRowF : List (Byte → Byte → Instr) :=
  [fun d _ => .beq d, fun d _ => .sbcIzy d, fun _ _ => .unassignedF2, fun _ _ => .unassignedF3,
   fun _ _ => .unassignedF4, fun d _ => .sbcZpx d, fun d _ => .incZpx d, fun _ _ => .unassignedF7,
   fun _ _ => .sed, fun lo hi => .sbcAby (u16 hi lo), fun _ _ => .unassignedFA, fun _ _ => .unassignedFB,
   fun _ _ => .unassignedFC, fun lo hi => .sbcAbx (u16 hi lo), fun lo hi => .incAbx (u16 hi lo), fun _ _ => .unassignedFF]

/-- R86's sixteen rows. -/
def opcodeMap : List (List (Byte → Byte → Instr)) :=
  [opcodeRow0, opcodeRow1, opcodeRow2, opcodeRow3, opcodeRow4, opcodeRow5, opcodeRow6, opcodeRow7,
   opcodeRow8, opcodeRow9, opcodeRowA, opcodeRowB, opcodeRowC, opcodeRowD, opcodeRowE, opcodeRowF]

/-- The instruction of opcode `op` with the bytes that follow it; every byte value is legal (R87). -/
def decodeBytes (op b1 b2 : Byte) : Instr :=
  ((opcodeMap.getD (op.toNat / 16) []).getD (op.toNat % 16) (fun _ _ => .nop)) b1 b2

/-- The mnemonic and the mode with its operand, the cell of R86 that the constructor stands for. -/
def Instr.form : Instr → Mnemonic × Mode
  | .ldaIzx d => (.lda, .mem (.izx d))
  | .ldaZp d => (.lda, .mem (.zp d))
  | .ldaImm v => (.lda, .imm v)
  | .ldaAbs a => (.lda, .mem (.abs a))
  | .ldaIzy d => (.lda, .mem (.izy d))
  | .ldaZpx d => (.lda, .mem (.zpx d))
  | .ldaAby a => (.lda, .mem (.aby a))
  | .ldaAbx a => (.lda, .mem (.abx a))
  | .ldxImm v => (.ldx, .imm v)
  | .ldxZp d => (.ldx, .mem (.zp d))
  | .ldxAbs a => (.ldx, .mem (.abs a))
  | .ldxZpy d => (.ldx, .mem (.zpy d))
  | .ldxAby a => (.ldx, .mem (.aby a))
  | .ldyImm v => (.ldy, .imm v)
  | .ldyZp d => (.ldy, .mem (.zp d))
  | .ldyAbs a => (.ldy, .mem (.abs a))
  | .ldyZpx d => (.ldy, .mem (.zpx d))
  | .ldyAbx a => (.ldy, .mem (.abx a))
  | .staIzx d => (.sta, .mem (.izx d))
  | .staZp d => (.sta, .mem (.zp d))
  | .staAbs a => (.sta, .mem (.abs a))
  | .staIzy d => (.sta, .mem (.izy d))
  | .staZpx d => (.sta, .mem (.zpx d))
  | .staAby a => (.sta, .mem (.aby a))
  | .staAbx a => (.sta, .mem (.abx a))
  | .stxZp d => (.stx, .mem (.zp d))
  | .stxAbs a => (.stx, .mem (.abs a))
  | .stxZpy d => (.stx, .mem (.zpy d))
  | .styZp d => (.sty, .mem (.zp d))
  | .styAbs a => (.sty, .mem (.abs a))
  | .styZpx d => (.sty, .mem (.zpx d))
  | .tax => (.tax, .imp)
  | .tay => (.tay, .imp)
  | .txa => (.txa, .imp)
  | .tya => (.tya, .imp)
  | .tsx => (.tsx, .imp)
  | .txs => (.txs, .imp)
  | .adcIzx d => (.adc, .mem (.izx d))
  | .adcZp d => (.adc, .mem (.zp d))
  | .adcImm v => (.adc, .imm v)
  | .adcAbs a => (.adc, .mem (.abs a))
  | .adcIzy d => (.adc, .mem (.izy d))
  | .adcZpx d => (.adc, .mem (.zpx d))
  | .adcAby a => (.adc, .mem (.aby a))
  | .adcAbx a => (.adc, .mem (.abx a))
  | .sbcIzx d => (.sbc, .mem (.izx d))
  | .sbcZp d => (.sbc, .mem (.zp d))
  | .sbcImm v => (.sbc, .imm v)
  | .sbcAbs a => (.sbc, .mem (.abs a))
  | .sbcIzy d => (.sbc, .mem (.izy d))
  | .sbcZpx d => (.sbc, .mem (.zpx d))
  | .sbcAby a => (.sbc, .mem (.aby a))
  | .sbcAbx a => (.sbc, .mem (.abx a))
  | .andIzx d => (.and, .mem (.izx d))
  | .andZp d => (.and, .mem (.zp d))
  | .andImm v => (.and, .imm v)
  | .andAbs a => (.and, .mem (.abs a))
  | .andIzy d => (.and, .mem (.izy d))
  | .andZpx d => (.and, .mem (.zpx d))
  | .andAby a => (.and, .mem (.aby a))
  | .andAbx a => (.and, .mem (.abx a))
  | .oraIzx d => (.ora, .mem (.izx d))
  | .oraZp d => (.ora, .mem (.zp d))
  | .oraImm v => (.ora, .imm v)
  | .oraAbs a => (.ora, .mem (.abs a))
  | .oraIzy d => (.ora, .mem (.izy d))
  | .oraZpx d => (.ora, .mem (.zpx d))
  | .oraAby a => (.ora, .mem (.aby a))
  | .oraAbx a => (.ora, .mem (.abx a))
  | .eorIzx d => (.eor, .mem (.izx d))
  | .eorZp d => (.eor, .mem (.zp d))
  | .eorImm v => (.eor, .imm v)
  | .eorAbs a => (.eor, .mem (.abs a))
  | .eorIzy d => (.eor, .mem (.izy d))
  | .eorZpx d => (.eor, .mem (.zpx d))
  | .eorAby a => (.eor, .mem (.aby a))
  | .eorAbx a => (.eor, .mem (.abx a))
  | .cmpIzx d => (.cmp, .mem (.izx d))
  | .cmpZp d => (.cmp, .mem (.zp d))
  | .cmpImm v => (.cmp, .imm v)
  | .cmpAbs a => (.cmp, .mem (.abs a))
  | .cmpIzy d => (.cmp, .mem (.izy d))
  | .cmpZpx d => (.cmp, .mem (.zpx d))
  | .cmpAby a => (.cmp, .mem (.aby a))
  | .cmpAbx a => (.cmp, .mem (.abx a))
  | .cpxImm v => (.cpx, .imm v)
  | .cpxZp d => (.cpx, .mem (.zp d))
  | .cpxAbs a => (.cpx, .mem (.abs a))
  | .cpyImm v => (.cpy, .imm v)
  | .cpyZp d => (.cpy, .mem (.zp d))
  | .cpyAbs a => (.cpy, .mem (.abs a))
  | .bitZp d => (.bit, .mem (.zp d))
  | .bitAbs a => (.bit, .mem (.abs a))
  | .incZp d => (.inc, .mem (.zp d))
  | .incAbs a => (.inc, .mem (.abs a))
  | .incZpx d => (.inc, .mem (.zpx d))
  | .incAbx a => (.inc, .mem (.abx a))
  | .decZp d => (.dec, .mem (.zp d))
  | .decAbs a => (.dec, .mem (.abs a))
  | .decZpx d => (.dec, .mem (.zpx d))
  | .decAbx a => (.dec, .mem (.abx a))
  | .inx => (.inx, .imp)
  | .iny => (.iny, .imp)
  | .dex => (.dex, .imp)
  | .dey => (.dey, .imp)
  | .aslZp d => (.asl, .mem (.zp d))
  | .aslAcc => (.asl, .acc)
  | .aslAbs a => (.asl, .mem (.abs a))
  | .aslZpx d => (.asl, .mem (.zpx d))
  | .aslAbx a => (.asl, .mem (.abx a))
  | .lsrZp d => (.lsr, .mem (.zp d))
  | .lsrAcc => (.lsr, .acc)
  | .lsrAbs a => (.lsr, .mem (.abs a))
  | .lsrZpx d => (.lsr, .mem (.zpx d))
  | .lsrAbx a => (.lsr, .mem (.abx a))
  | .rolZp d => (.rol, .mem (.zp d))
  | .rolAcc => (.rol, .acc)
  | .rolAbs a => (.rol, .mem (.abs a))
  | .rolZpx d => (.rol, .mem (.zpx d))
  | .rolAbx a => (.rol, .mem (.abx a))
  | .rorZp d => (.ror, .mem (.zp d))
  | .rorAcc => (.ror, .acc)
  | .rorAbs a => (.ror, .mem (.abs a))
  | .rorZpx d => (.ror, .mem (.zpx d))
  | .rorAbx a => (.ror, .mem (.abx a))
  | .bpl off => (.bpl, .rel off)
  | .bmi off => (.bmi, .rel off)
  | .bvc off => (.bvc, .rel off)
  | .bvs off => (.bvs, .rel off)
  | .bcc off => (.bcc, .rel off)
  | .bcs off => (.bcs, .rel off)
  | .bne off => (.bne, .rel off)
  | .beq off => (.beq, .rel off)
  | .jmpAbs a => (.jmp, .mem (.abs a))
  | .jmpInd a => (.jmp, .ind a)
  | .jsr a => (.jsr, .mem (.abs a))
  | .rts => (.rts, .imp)
  | .pha => (.pha, .imp)
  | .php => (.php, .imp)
  | .pla => (.pla, .imp)
  | .plp => (.plp, .imp)
  | .clc => (.clc, .imp)
  | .sec => (.sec, .imp)
  | .cli => (.cli, .imp)
  | .sei => (.sei, .imp)
  | .cld => (.cld, .imp)
  | .sed => (.sed, .imp)
  | .clv => (.clv, .imp)
  | .nop => (.nop, .imp)
  | .brk => (.brk, .imp)
  | .rti => (.rti, .imp)
  | .unassigned02 => (.unassigned, .imp)
  | .unassigned03 => (.unassigned, .imp)
  | .unassigned04 => (.unassigned, .imp)
  | .unassigned07 => (.unassigned, .imp)
  | .unassigned0B => (.unassigned, .imp)
  | .unassigned0C => (.unassigned, .imp)
  | .unassigned0F => (.unassigned, .imp)
  | .unassigned12 => (.unassigned, .imp)
  | .unassigned13 => (.unassigned, .imp)
  | .unassigned14 => (.unassigned, .imp)
  | .unassigned17 => (.unassigned, .imp)
  | .unassigned1A => (.unassigned, .imp)
  | .unassigned1B => (.unassigned, .imp)
  | .unassigned1C => (.unassigned, .imp)
  | .unassigned1F => (.unassigned, .imp)
  | .unassigned22 => (.unassigned, .imp)
  | .unassigned23 => (.unassigned, .imp)
  | .unassigned27 => (.unassigned, .imp)
  | .unassigned2B => (.unassigned, .imp)
  | .unassigned2F => (.unassigned, .imp)
  | .unassigned32 => (.unassigned, .imp)
  | .unassigned33 => (.unassigned, .imp)
  | .unassigned34 => (.unassigned, .imp)
  | .unassigned37 => (.unassigned, .imp)
  | .unassigned3A => (.unassigned, .imp)
  | .unassigned3B => (.unassigned, .imp)
  | .unassigned3C => (.unassigned, .imp)
  | .unassigned3F => (.unassigned, .imp)
  | .unassigned42 => (.unassigned, .imp)
  | .unassigned43 => (.unassigned, .imp)
  | .unassigned44 => (.unassigned, .imp)
  | .unassigned47 => (.unassigned, .imp)
  | .unassigned4B => (.unassigned, .imp)
  | .unassigned4F => (.unassigned, .imp)
  | .unassigned52 => (.unassigned, .imp)
  | .unassigned53 => (.unassigned, .imp)
  | .unassigned54 => (.unassigned, .imp)
  | .unassigned57 => (.unassigned, .imp)
  | .unassigned5A => (.unassigned, .imp)
  | .unassigned5B => (.unassigned, .imp)
  | .unassigned5C => (.unassigned, .imp)
  | .unassigned5F => (.unassigned, .imp)
  | .unassigned62 => (.unassigned, .imp)
  | .unassigned63 => (.unassigned, .imp)
  | .unassigned64 => (.unassigned, .imp)
  | .unassigned67 => (.unassigned, .imp)
  | .unassigned6B => (.unassigned, .imp)
  | .unassigned6F => (.unassigned, .imp)
  | .unassigned72 => (.unassigned, .imp)
  | .unassigned73 => (.unassigned, .imp)
  | .unassigned74 => (.unassigned, .imp)
  | .unassigned77 => (.unassigned, .imp)
  | .unassigned7A => (.unassigned, .imp)
  | .unassigned7B => (.unassigned, .imp)
  | .unassigned7C => (.unassigned, .imp)
  | .unassigned7F => (.unassigned, .imp)
  | .unassigned80 => (.unassigned, .imp)
  | .unassigned82 => (.unassigned, .imp)
  | .unassigned83 => (.unassigned, .imp)
  | .unassigned87 => (.unassigned, .imp)
  | .unassigned89 => (.unassigned, .imp)
  | .unassigned8B => (.unassigned, .imp)
  | .unassigned8F => (.unassigned, .imp)
  | .unassigned92 => (.unassigned, .imp)
  | .unassigned93 => (.unassigned, .imp)
  | .unassigned97 => (.unassigned, .imp)
  | .unassigned9B => (.unassigned, .imp)
  | .unassigned9C => (.unassigned, .imp)
  | .unassigned9E => (.unassigned, .imp)
  | .unassigned9F => (.unassigned, .imp)
  | .unassignedA3 => (.unassigned, .imp)
  | .unassignedA7 => (.unassigned, .imp)
  | .unassignedAB => (.unassigned, .imp)
  | .unassignedAF => (.unassigned, .imp)
  | .unassignedB2 => (.unassigned, .imp)
  | .unassignedB3 => (.unassigned, .imp)
  | .unassignedB7 => (.unassigned, .imp)
  | .unassignedBB => (.unassigned, .imp)
  | .unassignedBF => (.unassigned, .imp)
  | .unassignedC2 => (.unassigned, .imp)
  | .unassignedC3 => (.unassigned, .imp)
  | .unassignedC7 => (.unassigned, .imp)
  | .unassignedCB => (.unassigned, .imp)
  | .unassignedCF => (.unassigned, .imp)
  | .unassignedD2 => (.unassigned, .imp)
  | .unassignedD3 => (.unassigned, .imp)
  | .unassignedD4 => (.unassigned, .imp)
  | .unassignedD7 => (.unassigned, .imp)
  | .unassignedDA => (.unassigned, .imp)
  | .unassignedDB => (.unassigned, .imp)
  | .unassignedDC => (.unassigned, .imp)
  | .unassignedDF => (.unassigned, .imp)
  | .unassignedE2 => (.unassigned, .imp)
  | .unassignedE3 => (.unassigned, .imp)
  | .unassignedE7 => (.unassigned, .imp)
  | .unassignedEB => (.unassigned, .imp)
  | .unassignedEF => (.unassigned, .imp)
  | .unassignedF2 => (.unassigned, .imp)
  | .unassignedF3 => (.unassigned, .imp)
  | .unassignedF4 => (.unassigned, .imp)
  | .unassignedF7 => (.unassigned, .imp)
  | .unassignedFA => (.unassigned, .imp)
  | .unassignedFB => (.unassigned, .imp)
  | .unassignedFC => (.unassigned, .imp)
  | .unassignedFF => (.unassigned, .imp)

/-- The mnemonic of an instruction. -/
def Instr.mnemonic (i : Instr) : Mnemonic := i.form.1

/-- The addressing mode of an instruction, with its operand. -/
def Instr.mode (i : Instr) : Mode := i.form.2

/-- The opcode byte of each constructor (R86, R87, opcode_table.json). -/
def Instr.opcode : Instr → Byte
  | .ldaIzx _ => 0xA1#8
  | .ldaZp _ => 0xA5#8
  | .ldaImm _ => 0xA9#8
  | .ldaAbs _ => 0xAD#8
  | .ldaIzy _ => 0xB1#8
  | .ldaZpx _ => 0xB5#8
  | .ldaAby _ => 0xB9#8
  | .ldaAbx _ => 0xBD#8
  | .ldxImm _ => 0xA2#8
  | .ldxZp _ => 0xA6#8
  | .ldxAbs _ => 0xAE#8
  | .ldxZpy _ => 0xB6#8
  | .ldxAby _ => 0xBE#8
  | .ldyImm _ => 0xA0#8
  | .ldyZp _ => 0xA4#8
  | .ldyAbs _ => 0xAC#8
  | .ldyZpx _ => 0xB4#8
  | .ldyAbx _ => 0xBC#8
  | .staIzx _ => 0x81#8
  | .staZp _ => 0x85#8
  | .staAbs _ => 0x8D#8
  | .staIzy _ => 0x91#8
  | .staZpx _ => 0x95#8
  | .staAby _ => 0x99#8
  | .staAbx _ => 0x9D#8
  | .stxZp _ => 0x86#8
  | .stxAbs _ => 0x8E#8
  | .stxZpy _ => 0x96#8
  | .styZp _ => 0x84#8
  | .styAbs _ => 0x8C#8
  | .styZpx _ => 0x94#8
  | .tax => 0xAA#8
  | .tay => 0xA8#8
  | .txa => 0x8A#8
  | .tya => 0x98#8
  | .tsx => 0xBA#8
  | .txs => 0x9A#8
  | .adcIzx _ => 0x61#8
  | .adcZp _ => 0x65#8
  | .adcImm _ => 0x69#8
  | .adcAbs _ => 0x6D#8
  | .adcIzy _ => 0x71#8
  | .adcZpx _ => 0x75#8
  | .adcAby _ => 0x79#8
  | .adcAbx _ => 0x7D#8
  | .sbcIzx _ => 0xE1#8
  | .sbcZp _ => 0xE5#8
  | .sbcImm _ => 0xE9#8
  | .sbcAbs _ => 0xED#8
  | .sbcIzy _ => 0xF1#8
  | .sbcZpx _ => 0xF5#8
  | .sbcAby _ => 0xF9#8
  | .sbcAbx _ => 0xFD#8
  | .andIzx _ => 0x21#8
  | .andZp _ => 0x25#8
  | .andImm _ => 0x29#8
  | .andAbs _ => 0x2D#8
  | .andIzy _ => 0x31#8
  | .andZpx _ => 0x35#8
  | .andAby _ => 0x39#8
  | .andAbx _ => 0x3D#8
  | .oraIzx _ => 0x01#8
  | .oraZp _ => 0x05#8
  | .oraImm _ => 0x09#8
  | .oraAbs _ => 0x0D#8
  | .oraIzy _ => 0x11#8
  | .oraZpx _ => 0x15#8
  | .oraAby _ => 0x19#8
  | .oraAbx _ => 0x1D#8
  | .eorIzx _ => 0x41#8
  | .eorZp _ => 0x45#8
  | .eorImm _ => 0x49#8
  | .eorAbs _ => 0x4D#8
  | .eorIzy _ => 0x51#8
  | .eorZpx _ => 0x55#8
  | .eorAby _ => 0x59#8
  | .eorAbx _ => 0x5D#8
  | .cmpIzx _ => 0xC1#8
  | .cmpZp _ => 0xC5#8
  | .cmpImm _ => 0xC9#8
  | .cmpAbs _ => 0xCD#8
  | .cmpIzy _ => 0xD1#8
  | .cmpZpx _ => 0xD5#8
  | .cmpAby _ => 0xD9#8
  | .cmpAbx _ => 0xDD#8
  | .cpxImm _ => 0xE0#8
  | .cpxZp _ => 0xE4#8
  | .cpxAbs _ => 0xEC#8
  | .cpyImm _ => 0xC0#8
  | .cpyZp _ => 0xC4#8
  | .cpyAbs _ => 0xCC#8
  | .bitZp _ => 0x24#8
  | .bitAbs _ => 0x2C#8
  | .incZp _ => 0xE6#8
  | .incAbs _ => 0xEE#8
  | .incZpx _ => 0xF6#8
  | .incAbx _ => 0xFE#8
  | .decZp _ => 0xC6#8
  | .decAbs _ => 0xCE#8
  | .decZpx _ => 0xD6#8
  | .decAbx _ => 0xDE#8
  | .inx => 0xE8#8
  | .iny => 0xC8#8
  | .dex => 0xCA#8
  | .dey => 0x88#8
  | .aslZp _ => 0x06#8
  | .aslAcc => 0x0A#8
  | .aslAbs _ => 0x0E#8
  | .aslZpx _ => 0x16#8
  | .aslAbx _ => 0x1E#8
  | .lsrZp _ => 0x46#8
  | .lsrAcc => 0x4A#8
  | .lsrAbs _ => 0x4E#8
  | .lsrZpx _ => 0x56#8
  | .lsrAbx _ => 0x5E#8
  | .rolZp _ => 0x26#8
  | .rolAcc => 0x2A#8
  | .rolAbs _ => 0x2E#8
  | .rolZpx _ => 0x36#8
  | .rolAbx _ => 0x3E#8
  | .rorZp _ => 0x66#8
  | .rorAcc => 0x6A#8
  | .rorAbs _ => 0x6E#8
  | .rorZpx _ => 0x76#8
  | .rorAbx _ => 0x7E#8
  | .bpl _ => 0x10#8
  | .bmi _ => 0x30#8
  | .bvc _ => 0x50#8
  | .bvs _ => 0x70#8
  | .bcc _ => 0x90#8
  | .bcs _ => 0xB0#8
  | .bne _ => 0xD0#8
  | .beq _ => 0xF0#8
  | .jmpAbs _ => 0x4C#8
  | .jmpInd _ => 0x6C#8
  | .jsr _ => 0x20#8
  | .rts => 0x60#8
  | .pha => 0x48#8
  | .php => 0x08#8
  | .pla => 0x68#8
  | .plp => 0x28#8
  | .clc => 0x18#8
  | .sec => 0x38#8
  | .cli => 0x58#8
  | .sei => 0x78#8
  | .cld => 0xD8#8
  | .sed => 0xF8#8
  | .clv => 0xB8#8
  | .nop => 0xEA#8
  | .brk => 0x00#8
  | .rti => 0x40#8
  | .unassigned02 => 0x02#8
  | .unassigned03 => 0x03#8
  | .unassigned04 => 0x04#8
  | .unassigned07 => 0x07#8
  | .unassigned0B => 0x0B#8
  | .unassigned0C => 0x0C#8
  | .unassigned0F => 0x0F#8
  | .unassigned12 => 0x12#8
  | .unassigned13 => 0x13#8
  | .unassigned14 => 0x14#8
  | .unassigned17 => 0x17#8
  | .unassigned1A => 0x1A#8
  | .unassigned1B => 0x1B#8
  | .unassigned1C => 0x1C#8
  | .unassigned1F => 0x1F#8
  | .unassigned22 => 0x22#8
  | .unassigned23 => 0x23#8
  | .unassigned27 => 0x27#8
  | .unassigned2B => 0x2B#8
  | .unassigned2F => 0x2F#8
  | .unassigned32 => 0x32#8
  | .unassigned33 => 0x33#8
  | .unassigned34 => 0x34#8
  | .unassigned37 => 0x37#8
  | .unassigned3A => 0x3A#8
  | .unassigned3B => 0x3B#8
  | .unassigned3C => 0x3C#8
  | .unassigned3F => 0x3F#8
  | .unassigned42 => 0x42#8
  | .unassigned43 => 0x43#8
  | .unassigned44 => 0x44#8
  | .unassigned47 => 0x47#8
  | .unassigned4B => 0x4B#8
  | .unassigned4F => 0x4F#8
  | .unassigned52 => 0x52#8
  | .unassigned53 => 0x53#8
  | .unassigned54 => 0x54#8
  | .unassigned57 => 0x57#8
  | .unassigned5A => 0x5A#8
  | .unassigned5B => 0x5B#8
  | .unassigned5C => 0x5C#8
  | .unassigned5F => 0x5F#8
  | .unassigned62 => 0x62#8
  | .unassigned63 => 0x63#8
  | .unassigned64 => 0x64#8
  | .unassigned67 => 0x67#8
  | .unassigned6B => 0x6B#8
  | .unassigned6F => 0x6F#8
  | .unassigned72 => 0x72#8
  | .unassigned73 => 0x73#8
  | .unassigned74 => 0x74#8
  | .unassigned77 => 0x77#8
  | .unassigned7A => 0x7A#8
  | .unassigned7B => 0x7B#8
  | .unassigned7C => 0x7C#8
  | .unassigned7F => 0x7F#8
  | .unassigned80 => 0x80#8
  | .unassigned82 => 0x82#8
  | .unassigned83 => 0x83#8
  | .unassigned87 => 0x87#8
  | .unassigned89 => 0x89#8
  | .unassigned8B => 0x8B#8
  | .unassigned8F => 0x8F#8
  | .unassigned92 => 0x92#8
  | .unassigned93 => 0x93#8
  | .unassigned97 => 0x97#8
  | .unassigned9B => 0x9B#8
  | .unassigned9C => 0x9C#8
  | .unassigned9E => 0x9E#8
  | .unassigned9F => 0x9F#8
  | .unassignedA3 => 0xA3#8
  | .unassignedA7 => 0xA7#8
  | .unassignedAB => 0xAB#8
  | .unassignedAF => 0xAF#8
  | .unassignedB2 => 0xB2#8
  | .unassignedB3 => 0xB3#8
  | .unassignedB7 => 0xB7#8
  | .unassignedBB => 0xBB#8
  | .unassignedBF => 0xBF#8
  | .unassignedC2 => 0xC2#8
  | .unassignedC3 => 0xC3#8
  | .unassignedC7 => 0xC7#8
  | .unassignedCB => 0xCB#8
  | .unassignedCF => 0xCF#8
  | .unassignedD2 => 0xD2#8
  | .unassignedD3 => 0xD3#8
  | .unassignedD4 => 0xD4#8
  | .unassignedD7 => 0xD7#8
  | .unassignedDA => 0xDA#8
  | .unassignedDB => 0xDB#8
  | .unassignedDC => 0xDC#8
  | .unassignedDF => 0xDF#8
  | .unassignedE2 => 0xE2#8
  | .unassignedE3 => 0xE3#8
  | .unassignedE7 => 0xE7#8
  | .unassignedEB => 0xEB#8
  | .unassignedEF => 0xEF#8
  | .unassignedF2 => 0xF2#8
  | .unassignedF3 => 0xF3#8
  | .unassignedF4 => 0xF4#8
  | .unassignedF7 => 0xF7#8
  | .unassignedFA => 0xFA#8
  | .unassignedFB => 0xFB#8
  | .unassignedFC => 0xFC#8
  | .unassignedFF => 0xFF#8

/-- The operand bytes of a memory mode in address order (R71). -/
def MemMode.bytes : MemMode → List Byte
  | .zp d => [d]
  | .zpx d => [d]
  | .zpy d => [d]
  | .abs a => [lo8 a, hi8 a]
  | .abx a => [lo8 a, hi8 a]
  | .aby a => [lo8 a, hi8 a]
  | .izx d => [d]
  | .izy d => [d]

/-- The operand bytes of a mode in address order: formats F1, F2, F3 of R71. -/
def Mode.bytes : Mode → List Byte
  | .imp => []
  | .acc => []
  | .imm v => [v]
  | .mem m => m.bytes
  | .ind a => [lo8 a, hi8 a]
  | .rel off => [off]

/-- The length of an instruction in bytes (R71, R72). -/
def Instr.length (i : Instr) : Nat := 1 + i.mode.bytes.length

/-- R72: the opcode byte alone gives the length. -/
def opcodeLength (op : Byte) : Nat := (decodeBytes op 0 0).length

/-- Why a byte list holds no instruction. -/
inductive DecodeError where
  /-- The list is empty: there is no opcode byte. -/
  | noOpcode
  /-- The list ends before the operand bytes that the opcode's mode takes. -/
  | missingOperand
deriving DecidableEq, Repr

/-- The first instruction of a byte list and the bytes after it (R70, R72). -/
def decode : List Byte → Except DecodeError (Instr × List Byte)
  | [] => .error .noOpcode
  | op :: rest =>
    if rest.length < opcodeLength op - 1 then .error .missingOperand
    else .ok (decodeBytes op (rest.getD 0 0) (rest.getD 1 0), rest.drop (opcodeLength op - 1))

/-- The bytes of an instruction in address order: the opcode, then the operand bytes (R70, R71). -/
def encode (i : Instr) : List Byte := i.opcode :: i.mode.bytes

/-- The bytes of an instruction given as one number, byte 0 lowest (R86), with every bit above `nbits` zero; three
bytes, the longest instruction (R72). -/
def tableWordBytes (nbits w : Nat) : List Byte :=
  [BitVec.ofNat 8 (w % 2 ^ nbits), BitVec.ofNat 8 (w % 2 ^ nbits / 256), BitVec.ofNat 8 (w % 2 ^ nbits / 65536)]

/-- The host's question about one row of `opcode_table.json`: what this decoder reads from those bytes. -/
def decodeTableWord (nbits w : Nat) : Option Instr :=
  match decode (tableWordBytes nbits w) with
  | .ok (i, _) => some i
  | .error _ => none

end Sys2Proof
end

