-- ==== Sys2Proof/Config.lean ====
section
/-!
DEFINITION. What the spec leaves to the implementation (00_scope.md R6): the named parameters, as plain data that State
carries (log 2), and the uninterpreted constants.
-/

namespace Sys2Proof

/-- The named parameters of R6 that a model takes as arguments and that no instruction changes. DESIGN CHOICE (log 2):
they stand in State, so that a statement about every state holds for every value of them. -/
structure Params where
  /-- `CYCLES_PER_FRAME`, a positive integer (R281, D33). -/
  cyclesPerFrame : Nat
  /-- `BASE_CYCLES` (R86, R88, D9; log 4): the base cycle count of each opcode, laid out as the table of R86: the row is the
  opcode's high nibble, the column its low nibble. The cells of branches and unassigned opcodes are never read (R88). -/
  baseCycles : Vector (Vector Nat 16) 16
  /-- `SPRITE_Y_OFFSET`, 0 or 1 (R240, D27). -/
  spriteYOffset : Fin 2
  /-- `MASK_GATES_RENDER` (R221, D23). -/
  maskGatesRender : Bool
  /-- `IRQ_SOURCE` is not empty: the environment may set `irqPending` before a step (R293, D10). -/
  irqSource : Bool
  /-- `RESET_A` (R30, D2). -/
  resetA : Byte
  /-- `RESET_X` (R30, D2). -/
  resetX : Byte
  /-- `RESET_Y` (R30, D2). -/
  resetY : Byte
  /-- `RESET_SP` (R30, D2). -/
  resetSP : Byte
  /-- `RESET_P` (R30, D2). -/
  resetP : Byte
deriving DecidableEq, Repr

/-- `SYSTEM_PALETTE` (R236, D26): the packed RGBA value of each 6-bit index. A FREE VALUE (log 5): the spec gives
neither the colours nor the packing, so nothing can be proved of it. -/
opaque Config.systemPalette : Pixel → Nat

/-- What a pixel shows before the first `renderFrame()` (R32, R322, U5: any value). A FREE VALUE (log 6). -/
opaque Config.powerOnPixel : Nat → Pixel

/-- The character size that a successful load reports for a character-bank count other than 1 (R269: its exact value
is not given). A FREE VALUE (log 16). -/
opaque Config.reportedCharacterSize : Nat → Nat

end Sys2Proof
end

