-- ==== Sys2Proof/Machine/Units.lean ====
section
/-!
DEFINITION. The state of the units around the CPU as plain data: PPU, joypad, cartridge, frame sequencer (10_state.md R21
to R29).
-/

namespace Sys2Proof.Machine

/-- A byte memory: (address, byte) pairs in canonical form (`Memory.wf`); an unlisted address reads as
`Memory.unlisted`. -/
abbrev Memory := List Host.Cell

/-- Nametable mirroring modes (R28, R205). -/
inductive Mirroring where
  | horizontal
  | vertical
  | fourScreen
deriving DecidableEq, Repr

/-- The PPU's registers and memories (R21, R25, R26). -/
structure Ppu where
  control : Byte
  mask : Byte
  status : Byte
  oamAddress : Byte
  scrollX : Byte
  scrollY : Byte
  addressLatch : Bool
  /-- 14 bits: "only 14 bits are ever non-zero" (R21). -/
  vramAddress : VideoAddr
  readBuffer : Byte
  /-- 2048 bytes. -/
  nameTableRAM : Memory
  /-- 32 bytes. -/
  paletteRAM : Memory
  /-- 256 bytes. -/
  oam : Memory
  /-- Empty before the first render; afterwards the 61,440 pixels, `(x, y)` at `y*256 + x` (R26; log 5, log 6). -/
  frameBuffer : List Pixel
deriving DecidableEq, Repr

/-- The joypad (R27): `shiftIndex` is 0..8. -/
structure Joypad where
  buttonMask : Byte
  shiftIndex : Fin 9
  strobe : Bool
deriving DecidableEq, Repr

/-- The cartridge (R28): `prgROM` has `prgBanks * 16384` bytes, `prgRAM` and `chr` 8192. -/
structure Cartridge where
  prgBanks : Nat
  prgROM : Memory
  prgRAM : Memory
  chr : Memory
  hasCharacterRAM : Bool
  mapperId : Byte
  mirroring : Mirroring
deriving DecidableEq, Repr

/-- `L = length(prgROM)` (R28). -/
def Cartridge.prgLength (c : Cartridge) : Nat := c.prgBanks * 16384

/-- Where a `runOneFrame()` call in progress stands (R281): whether one is running, and its local accumulator
`acc`. The MODEL's own state (log 1): between two calls it is not running and `acc` is 0. -/
structure Sequencer where
  running : Bool
  acc : Nat
deriving DecidableEq, Repr

/-- No `runOneFrame()` call in progress. -/
def Sequencer.idle : Sequencer := { running := false, acc := 0 }

end Sys2Proof.Machine
end

