-- ==== Sys2Proof/Machine/Defaults.lean ====
section
/-!
DEFINITION. The values a reset leaves: the parameters' defaults (00_scope.md R6), the PPU after its reset (10_state.md
R32), the joypad at power-on (R33), the blank cartridge (log 7).
-/

namespace Sys2Proof.Machine

/-- The default of `BASE_CYCLES`: the counts in the cells of R86, 2 where a cell has no count (R87). -/
def defaultBaseCycles : Vector (Vector Nat 16) 16 := #v[
  #v[7, 6, 2, 2, 2, 3, 5, 2, 3, 2, 2, 2, 2, 4, 6, 2],
  #v[2, 5, 2, 2, 2, 4, 6, 2, 2, 4, 2, 2, 2, 4, 7, 2],
  #v[6, 6, 2, 2, 3, 3, 5, 2, 4, 2, 2, 2, 4, 4, 6, 2],
  #v[2, 5, 2, 2, 2, 4, 6, 2, 2, 4, 2, 2, 2, 4, 7, 2],
  #v[6, 6, 2, 2, 2, 3, 5, 2, 3, 2, 2, 2, 3, 4, 6, 2],
  #v[2, 5, 2, 2, 2, 4, 6, 2, 2, 4, 2, 2, 2, 4, 7, 2],
  #v[6, 6, 2, 2, 2, 3, 5, 2, 4, 2, 2, 2, 5, 4, 6, 2],
  #v[2, 5, 2, 2, 2, 4, 6, 2, 2, 4, 2, 2, 2, 4, 7, 2],
  #v[2, 6, 2, 2, 3, 3, 3, 2, 2, 2, 2, 2, 4, 4, 4, 2],
  #v[2, 6, 2, 2, 4, 4, 4, 2, 2, 5, 2, 2, 2, 5, 2, 2],
  #v[2, 6, 2, 2, 3, 3, 3, 2, 2, 2, 2, 2, 4, 4, 4, 2],
  #v[2, 5, 2, 2, 4, 4, 4, 2, 2, 4, 2, 2, 4, 4, 4, 2],
  #v[2, 6, 2, 2, 3, 3, 5, 2, 2, 2, 2, 2, 4, 4, 6, 2],
  #v[2, 5, 2, 2, 2, 4, 6, 2, 2, 4, 2, 2, 2, 4, 7, 2],
  #v[2, 6, 2, 2, 3, 3, 5, 2, 2, 2, 2, 2, 4, 4, 6, 2],
  #v[2, 5, 2, 2, 2, 4, 6, 2, 2, 4, 2, 2, 2, 4, 7, 2]]

/-- `BASE_CYCLES[opcode]` (R88): the cell of the opcode. -/
def baseCount (params : Params) (opcode : Byte) : Nat :=
  have := opcode.isLt
  (params.baseCycles[opcode.toNat / 16]'(by omega))[opcode.toNat % 16]'(by omega)

/-- The defaults of R6's table. DESIGN CHOICE (log 2, log 3): each is the spec's recommendation for a parameter that
its source leaves open. -/
def defaultParams : Params where
  cyclesPerFrame := 29780
  baseCycles := defaultBaseCycles
  spriteYOffset := 1
  maskGatesRender := false
  irqSource := false
  resetA := 0x00
  resetX := 0x00
  resetY := 0x00
  resetSP := 0xFD
  resetP := 0x24

/-- A PPU whose registers and memories are all clear, showing `frame` (R32: a reset leaves `frameBuffer` alone). -/
def clearPpu (frame : List Pixel) : Ppu where
  control := 0
  mask := 0
  status := 0
  oamAddress := 0
  scrollX := 0
  scrollY := 0
  addressLatch := false
  vramAddress := 0
  readBuffer := 0
  nameTableRAM := []
  paletteRAM := []
  oam := []
  frameBuffer := frame

/-- The joypad at construction (R33). -/
def powerOnJoypad : Joypad where
  buttonMask := 0
  shiftIndex := 0
  strobe := false

/-- The cartridge that the image of R271 without its program gives: one bank of zero bytes, character RAM, VERTICAL.
DESIGN CHOICE (log 7): R6 gives `PRG_ROM` no default. -/
def blankCartridge : Cartridge where
  prgBanks := 1
  prgROM := []
  prgRAM := []
  chr := []
  hasCharacterRAM := true
  mapperId := 0
  mirroring := .vertical

/-- No cartridge: what stands in the cartridge's place before the first load (R322, D40). No step reads it (R284). -/
def noCartridge : Cartridge where
  prgBanks := 0
  prgROM := []
  prgRAM := []
  chr := []
  hasCharacterRAM := false
  mapperId := 0
  mirroring := .horizontal

end Sys2Proof.Machine
end

