-- ==== Sys2Proof/Machine/State.lean ====
section
/-!
DEFINITION. The machine's state (10_state.md), the reasons a step can stop, and the state after reset
(70_reset_and_hazards.md R320, R321).
-/

namespace Sys2Proof.Machine

/-- The whole machine. CPU registers stand at the top, the other units under their own names. -/
structure State where
  /-- Accumulator (R10). -/
  a : Byte
  /-- Index register X (R10). -/
  x : Byte
  /-- Index register Y (R10). -/
  y : Byte
  /-- Stack pointer, offset into page `$0100` (R12). -/
  sp : Byte
  /-- Program counter (R11). -/
  pc : Word
  /-- Status register, bits 0 to 7 C Z I D B U V N (R13). -/
  p : Byte
  /-- NMI latch (R18). -/
  nmiPending : Bool
  /-- IRQ latch (R18). -/
  irqPending : Bool
  /-- What the last `step()` returned (R8, R280). The MODEL's own field (log 12). -/
  cycles : Nat
  /-- Work RAM, 2048 bytes (R20). -/
  ram : Memory
  /-- The PPU (R21 to R26). -/
  ppu : Ppu
  /-- The joypad (R27). -/
  joypad : Joypad
  /-- False until the first successful load (R28). -/
  cartridgeAttached : Bool
  /-- The cartridge (R28). -/
  cart : Cartridge
  /-- The frame sequencer's call in progress (R281; log 1). -/
  seq : Sequencer
  /-- The parameters of R6 (log 2). -/
  params : Params
deriving DecidableEq, Repr

/-- Reasons the machine stops with a fault: none. "No behaviour of this machine is treated as fault or stuck"
(93_implementation_defined.md Part 1); R62 and R297 say that no access and no instruction faults (log 13). Safe: nobody
raises one. -/
inductive Fault where
deriving DecidableEq, Repr

/-- Reasons a step is refused. -/
inductive Refusal where
  /-- Raised by an arm of `exec` for an instruction without a meaning. No arm raises it: every instruction has its
  meaning. Safe: a refusal claims nothing. -/
  | notModelled (mnemonic : String)
deriving DecidableEq, Repr

/-- What a meaning answers. -/
abbrev Result := Host.Outcome State Fault Refusal

/-- `A <- v`. -/
def State.setA (s : State) (v : Byte) : State := { s with a := v }
/-- `X <- v`. -/
def State.setX (s : State) (v : Byte) : State := { s with x := v }
/-- `Y <- v`. -/
def State.setY (s : State) (v : Byte) : State := { s with y := v }
/-- `SP <- v`. -/
def State.setSp (s : State) (v : Byte) : State := { s with sp := v }
/-- `PC <- v`. -/
def State.setPc (s : State) (v : Word) : State := { s with pc := v }
/-- `P <- v`. -/
def State.setP (s : State) (v : Byte) : State := { s with p := v }
/-- `nmiPending <- v`. -/
def State.setNmi (s : State) (v : Bool) : State := { s with nmiPending := v }
/-- `irqPending <- v`. -/
def State.setIrq (s : State) (v : Bool) : State := { s with irqPending := v }
/-- `cycles <- n` (R8). -/
def State.setCycles (s : State) (n : Nat) : State := { s with cycles := n }
/-- Replace work RAM. -/
def State.setRam (s : State) (m : Memory) : State := { s with ram := m }
/-- Replace the PPU's state. -/
def State.setPpu (s : State) (v : Ppu) : State := { s with ppu := v }
/-- Replace the joypad's state. -/
def State.setJoypad (s : State) (v : Joypad) : State := { s with joypad := v }
/-- Replace the attach bit. -/
def State.setAttached (s : State) (v : Bool) : State := { s with cartridgeAttached := v }
/-- Replace the cartridge's state. -/
def State.setCart (s : State) (v : Cartridge) : State := { s with cart := v }
/-- Replace the sequencer's state. -/
def State.setSeq (s : State) (v : Sequencer) : State := { s with seq := v }

/-- The machine right after reset (R321). The only reset is the one that ends a successful load (R320), so this is
the state that loading a blank image leaves (log 7; `Sys2Proof.Laws.reset_is_blank_load`): `PC` is the word at `$FFFC`,
which a blank program ROM holds as `$0000`. -/
def State.reset : State where
  a := defaultParams.resetA
  x := defaultParams.resetX
  y := defaultParams.resetY
  sp := defaultParams.resetSP
  pc := 0x0000
  p := defaultParams.resetP
  nmiPending := false
  irqPending := false
  cycles := 0
  ram := []
  ppu := clearPpu []
  joypad := powerOnJoypad
  cartridgeAttached := true
  cart := blankCartridge
  seq := .idle
  params := defaultParams

/-- Before the first load (R322, D40): every register and memory zero, no cartridge. -/
def State.powerOn : State where
  a := 0
  x := 0
  y := 0
  sp := 0
  pc := 0
  p := 0
  nmiPending := false
  irqPending := false
  cycles := 0
  ram := []
  ppu := clearPpu []
  joypad := powerOnJoypad
  cartridgeAttached := false
  cart := noCartridge
  seq := .idle
  params := defaultParams

end Sys2Proof.Machine
end

