-- ==== Sys2Proof/Machine/Memory.lean ====
section
/-!
DEFINITION. Byte memories in canonical form: addresses strictly rising, every address below the memory's size, and no
entry that equals what an unlisted address reads as. Every memory of the machine is cleared to zero by a reset or a load
(10_state.md R31, R32, R34), so an unlisted address reads as zero (log 9).
-/

namespace Sys2Proof.Machine

/-- What an address that a memory does not list reads as (log 9). -/
def Memory.unlisted : Byte := 0

/-- The byte at an address. -/
def Memory.read : Memory → Nat → Byte
  | [], _ => Memory.unlisted
  | (a, b) :: m, k => if a = k then b else Memory.read m k

/-- Remove an address from the list, so that it reads as `Memory.unlisted`. -/
def Memory.erase : Memory → Nat → Memory
  | [], _ => []
  | (a, b) :: m, k => if a = k then Memory.erase m k else (a, b) :: Memory.erase m k

/-- Enter a byte at an address that the list does not hold, in its place. -/
def Memory.insert : Memory → Nat → Byte → Memory
  | [], k, v => [(k, v)]
  | (a, b) :: m, k, v => if k < a then (k, v) :: (a, b) :: m else (a, b) :: Memory.insert m k v

/-- Store a byte. Storing what an unlisted address reads as removes the entry. -/
def Memory.write (m : Memory) (k : Nat) (v : Byte) : Memory :=
  if v = Memory.unlisted then m.erase k else (m.erase k).insert k v

/-- The memory that holds `bytes` from address `k` on. -/
def Memory.ofBytes : List Byte → Nat → Memory
  | [], _ => []
  | b :: bs, k => if b = Memory.unlisted then Memory.ofBytes bs (k + 1) else (k, b) :: Memory.ofBytes bs (k + 1)

/-- The canonical form from address `lo` on, for a memory of `size` bytes. -/
def Memory.wfFrom (lo size : Nat) : Memory → Bool
  | [] => true
  | (a, b) :: m => decide (lo ≤ a) && decide (a < size) && decide (b ≠ Memory.unlisted) && Memory.wfFrom (a + 1) size m

/-- The canonical form of a memory of `size` bytes. -/
def Memory.wf (size : Nat) (m : Memory) : Bool := Memory.wfFrom 0 size m

end Sys2Proof.Machine
end

