-- ==== Sys2Proof/Machine/Flags.lean ====
section
/-!
DEFINITION. The status register's flags and every flag computation (10_state.md R13 to R16, 41_arithmetic_logic.md R121,
R122, R126, R129, 42_shift_rotate.md R140 to R143).
-/

namespace Sys2Proof.Machine

/-- The flags of `P` (R13). -/
inductive Flag where
  | C | Z | I | D | B | U | V | N
deriving DecidableEq, Repr

/-- The bit number of a flag (R13). -/
def Flag.bit : Flag → Nat
  | .C => 0
  | .Z => 1
  | .I => 2
  | .D => 3
  | .B => 4
  | .U => 5
  | .V => 6
  | .N => 7

/-- The mask of a flag (R13). -/
def Flag.mask (f : Flag) : Byte := 1#8 <<< f.bit

/-- One flag of a status byte. -/
def flagOf (p : Byte) (f : Flag) : Bool := p.getLsbD f.bit

/-- A status byte with one flag replaced. -/
def putFlag (p : Byte) (f : Flag) (v : Bool) : Byte := if v then p ||| f.mask else p &&& ~~~f.mask

/-- `P.f`. -/
def State.flag (s : State) (f : Flag) : Bool := flagOf s.p f

/-- `P.f <- v`. -/
def State.setFlag (s : State) (f : Flag) (v : Bool) : State := s.setP (putFlag s.p f v)

/-- `setZN(v)` on a status byte (R15). -/
def znStatus (p v : Byte) : Byte := putFlag (putFlag p .Z (decide (v = 0))) .N v.msb

/-- `setZN(v)` (R15). -/
def setZN (v : Byte) (s : State) : State := s.setP (znStatus s.p v)

/-! ## Stacked status bytes (R14) -/

/-- The byte an NMI or IRQ entry pushes: Break clear, Unused set. -/
def interruptStatus (p : Byte) : Byte := (p &&& 0xEF) ||| 0x20

/-- The byte PHP and BRK push: Break and Unused set. -/
def softwareStatus (p : Byte) : Byte := p ||| 0x30

/-- What PLP and RTI load from a popped byte. -/
def pulledStatus (v : Byte) : Byte := (v &&& 0xEF) ||| 0x20

/-! ## Arithmetic -/

/-- The 9-bit sum of R121. -/
def adcSum (a m : Byte) (c : Bool) : Nat := a.toNat + m.toNat + c.toNat

/-- The 8-bit result of R121. -/
def adcResult (a m : Byte) (c : Bool) : Byte := BitVec.ofNat 8 (adcSum a m c)

/-- The status byte after R121: C, V, then `setZN`. -/
def adcStatus (p a m : Byte) : Byte :=
  let r := adcResult a m (flagOf p .C)
  let carry := decide (0xFF < adcSum a m (flagOf p .C))
  let overflow := decide ((~~~(a ^^^ m)) &&& (a ^^^ r) &&& 0x80 ≠ 0)
  znStatus (putFlag (putFlag p .C carry) .V overflow) r

/-- The body of ADC (R121) for the operand byte `m`; `A` is read before it is written. -/
def addWithCarry (m : Byte) (s : State) : State :=
  (s.setA (adcResult s.a m (s.flag .C))).setP (adcStatus s.p s.a m)

/-- The status byte after comparing `reg` with `m` (R126). -/
def compareStatus (p reg m : Byte) : Byte :=
  znStatus (putFlag p .C (decide (m.toNat ≤ reg.toNat))) (reg - m)

/-- The status byte after BIT (R129). -/
def bitStatus (p a m : Byte) : Byte :=
  putFlag (putFlag (putFlag p .Z (decide (a &&& m = 0))) .V (m.getLsbD 6)) .N (m.getLsbD 7)

/-! ## Shifts and rotates: the result and the bit shifted out, from the byte and the prior carry -/

/-- ASL (R140). -/
def aslByte (m : Byte) (_c : Bool) : Byte × Bool := (m <<< 1, m.getLsbD 7)

/-- LSR (R141). -/
def lsrByte (m : Byte) (_c : Bool) : Byte × Bool := (m >>> 1, m.getLsbD 0)

/-- ROL (R142). -/
def rolByte (m : Byte) (c : Bool) : Byte × Bool := ((m <<< 1) ||| (if c then 0x01 else 0x00), m.getLsbD 7)

/-- ROR (R143). -/
def rorByte (m : Byte) (c : Bool) : Byte × Bool := ((m >>> 1) ||| (if c then 0x80 else 0x00), m.getLsbD 0)

/-- The status byte after a shift with result `r.1` and carry `r.2`: C, then `setZN` (R140 to R143). -/
def shiftStatus (p : Byte) (r : Byte × Bool) : Byte := znStatus (putFlag p .C r.2) r.1

end Sys2Proof.Machine
end

