-- ==== Sys2Proof/Machine/Pad.lean ====
section
/-!
DEFINITION. The joypad shift register (47_joypad.md R250 to R255).
-/

namespace Sys2Proof.Machine

/-- The bit a read presents: the button at `shiftIndex`, 1 once all eight have been read (R253). -/
def Joypad.currentBit (j : Joypad) : Bool :=
  if j.shiftIndex.val < 8 then j.buttonMask.getLsbD j.shiftIndex.val else true

/-- `shiftIndex` after a read: it advances only while `strobe` is false, and stops at 8 (R253). -/
def Joypad.advanced (j : Joypad) : Fin 9 :=
  if h : j.strobe = false ∧ j.shiftIndex.val < 8 then ⟨j.shiftIndex.val + 1, by omega⟩ else j.shiftIndex

/-- `JoypadRead()` (R253): bit 6 is always set. -/
def joypadRead (s : State) : Byte × State :=
  (if s.joypad.currentBit then 0x41 else 0x40, s.setJoypad { s.joypad with shiftIndex := s.joypad.advanced })

/-- `JoypadWrite(v)` (R252): bit 0 is the new strobe, and a high strobe rewinds. -/
def joypadWrite (s : State) (v : Byte) : State :=
  if v.getLsbD 0 then s.setJoypad { s.joypad with strobe := true, shiftIndex := 0 }
  else s.setJoypad { s.joypad with strobe := false }

/-- `setButton(k, pressed)` on the joypad (R251). -/
def Joypad.setButton (j : Joypad) (k : Fin 8) (pressed : Bool) : Joypad :=
  { j with buttonMask := if pressed then j.buttonMask ||| (1#8 <<< k.val) else j.buttonMask &&& ~~~(1#8 <<< k.val) }

/-- The joypad's `reset()` (R254): the button mask stays. -/
def Joypad.afterReset (j : Joypad) : Joypad := { j with shiftIndex := 0, strobe := false }

end Sys2Proof.Machine
end

