-- ==== Sys2Proof/Machine/Ppu.lean ====
section
/-!
DEFINITION. The PPU's register ports and the video bus (45_ppu_registers.md R190 to R208).
-/

namespace Sys2Proof.Machine

/-! ## The video bus -/

/-- `NtIndex(a)` of R205, for `0x2000 <= a < 0x3F00`. -/
def ntIndex (mirroring : Mirroring) (a : Nat) : Nat :=
  let l := (a - 0x2000) % 0x1000
  let page := l / 0x400
  let phys := match mirroring with
    | .vertical => page % 2
    | .horizontal => page / 2 % 2
    | .fourScreen => page % 2
  phys * 1024 + l % 0x400

/-- `PalIndex(a)` of R206, for `0x3F00 <= a <= 0x3FFF`. -/
def palIndex (a : Nat) : Nat :=
  let i := a % 0x20
  if i &&& 0x13 = 0x10 then i % 0x10 else i

/-- `PpuRead(a)` (R203). -/
def ppuRead (s : State) (a : VideoAddr) : Byte :=
  if a.toNat < 0x2000 then s.cart.chr.read a.toNat
  else if a.toNat < 0x3F00 then s.ppu.nameTableRAM.read (ntIndex s.cart.mirroring a.toNat)
  else s.ppu.paletteRAM.read (palIndex a.toNat)

/-- `PpuWrite(a, v)` (R204): character ROM drops the write. -/
def ppuWrite (s : State) (a : VideoAddr) (v : Byte) : State :=
  if a.toNat < 0x2000 then
    if s.cart.hasCharacterRAM then s.setCart { s.cart with chr := s.cart.chr.write a.toNat v } else s
  else if a.toNat < 0x3F00 then
    s.setPpu { s.ppu with nameTableRAM := s.ppu.nameTableRAM.write (ntIndex s.cart.mirroring a.toNat) v }
  else s.setPpu { s.ppu with paletteRAM := s.ppu.paletteRAM.write (palIndex a.toNat) v }

/-- The step of `vramAddress`: `control[2]` selects 1 or 32 (R22, R193). -/
def vramIncrement (control : Byte) : VideoAddr := if control.getLsbD 2 then 32 else 1

/-- `IncVram()` (R193): 14 bits, so it wraps. -/
def incVram (s : State) : State :=
  s.setPpu { s.ppu with vramAddress := s.ppu.vramAddress + vramIncrement s.ppu.control }

/-! ## Port reads -/

/-- Read `$2002` (R194). -/
def readStatus (s : State) : Byte × State :=
  (s.ppu.status, s.setPpu { s.ppu with status := s.ppu.status &&& 0x7F, addressLatch := false })

/-- Read `$2004` (R196): no side effect. -/
def readOamData (s : State) : Byte × State := (s.ppu.oam.read s.ppu.oamAddress.toNat, s)

/-- Read `$2007` (R200): palette bytes at once, any other byte through `readBuffer`. -/
def readVideoData (s : State) : Byte × State :=
  if 0x3F00 ≤ s.ppu.vramAddress.toNat then
    (s.ppu.paletteRAM.read (palIndex s.ppu.vramAddress.toNat), incVram s)
  else
    (s.ppu.readBuffer, incVram (s.setPpu { s.ppu with readBuffer := ppuRead s s.ppu.vramAddress }))

/-- `PpuRegRead(r)` (R190, R202): ports 0, 1, 3, 5, 6 read 0 without effect. -/
def ppuRegRead (s : State) (r : Nat) : Byte × State :=
  if r = 2 then readStatus s
  else if r = 4 then readOamData s
  else if r = 7 then readVideoData s
  else (0x00, s)

/-! ## Port writes -/

/-- Write `$2000` (R191). -/
def writeControl (s : State) (v : Byte) : State := s.setPpu { s.ppu with control := v }

/-- Write `$2001` (R192). -/
def writeMask (s : State) (v : Byte) : State := s.setPpu { s.ppu with mask := v }

/-- Write `$2003` (R195). -/
def writeOamAddress (s : State) (v : Byte) : State := s.setPpu { s.ppu with oamAddress := v }

/-- Write `$2004` (R197). -/
def writeOamData (s : State) (v : Byte) : State :=
  s.setPpu { s.ppu with oam := s.ppu.oam.write s.ppu.oamAddress.toNat v, oamAddress := s.ppu.oamAddress + 1 }

/-- Write `$2005` (R198): first X, then Y. -/
def writeScroll (s : State) (v : Byte) : State :=
  if s.ppu.addressLatch then s.setPpu { s.ppu with scrollY := v, addressLatch := false }
  else s.setPpu { s.ppu with scrollX := v, addressLatch := true }

/-- Write `$2006` (R199): first the high six bits, then the low byte. -/
def writeVideoAddress (s : State) (v : Byte) : State :=
  if s.ppu.addressLatch then
    s.setPpu { s.ppu with vramAddress := s.ppu.vramAddress.extractLsb' 8 6 ++ v, addressLatch := false }
  else
    s.setPpu { s.ppu with vramAddress := v.setWidth 6 ++ s.ppu.vramAddress.setWidth 8, addressLatch := true }

/-- Write `$2007` (R201). -/
def writeVideoData (s : State) (v : Byte) : State := incVram (ppuWrite s s.ppu.vramAddress v)

/-- `PpuRegWrite(r, v)` (R190, R202): a write to port 2 does nothing. -/
def ppuRegWrite (s : State) (r : Nat) (v : Byte) : State :=
  if r = 0 then writeControl s v
  else if r = 1 then writeMask s v
  else if r = 3 then writeOamAddress s v
  else if r = 4 then writeOamData s v
  else if r = 5 then writeScroll s v
  else if r = 6 then writeVideoAddress s v
  else if r = 7 then writeVideoData s v
  else s

/-! ## Operations the sequencer calls (R207) -/

/-- `beginVBlank()`. -/
def beginVBlank (s : State) : State := s.setPpu { s.ppu with status := s.ppu.status ||| 0x80 }

/-- `clearVBlank()`. -/
def clearVBlank (s : State) : State := s.setPpu { s.ppu with status := s.ppu.status &&& 0x7F }

end Sys2Proof.Machine
end

