-- ==== Sys2Proof/Machine/Ops.lean ====
section
/-!
DEFINITION. The CPU-bus router (20_memory.md R41 to R50), the stack (10_state.md R17), taking an exception and returning
from one (60_exceptions.md R295, R298), and placing bytes in memory from outside.
-/

namespace Sys2Proof.Machine

/-! ## The router -/

/-- Where `$8000 + n` lies in program ROM (R50). -/
def prgRomIndex (c : Cartridge) (a : Nat) : Nat := (a - 0x8000) % c.prgLength

/-- `MemRead(addr, 1)` (R41): the byte, and the state after the device's read side effect. -/
def memRead (s : State) (addr : Word) : Byte × State :=
  let a := addr.toNat
  if a < 0x2000 then (s.ram.read (a % 0x0800), s)
  else if a < 0x4000 then ppuRegRead s (a % 8)
  else if a < 0x4016 then (0x00, s)
  else if a = 0x4016 then joypadRead s
  else if a = 0x4017 then (0x40, s)
  else if a < 0x6000 then (0x00, s)
  else if a < 0x8000 then (s.cart.prgRAM.read (a - 0x6000), s)
  else (s.cart.prgROM.read (prgRomIndex s.cart a), s)

/-- Byte `k` of an OAM DMA from page `page` (R48): a read through the router, then a store into OAM. -/
def oamDmaStep (page : Byte) (s : State) (k : Nat) : State :=
  let r := memRead s (u16 page (BitVec.ofNat 8 k))
  r.2.setPpu { r.2.ppu with oam := r.2.ppu.oam.write ((r.2.ppu.oamAddress.toNat + k) % 256) r.1 }

/-- The OAM DMA that a write of `page` to `$4014` performs (R48): 256 bytes in ascending order. -/
def oamDma (page : Byte) (s : State) : State := (List.range 256).foldl (oamDmaStep page) s

/-- `MemWrite(addr, 1, v)` (R42). -/
def memWrite (s : State) (addr : Word) (v : Byte) : State :=
  let a := addr.toNat
  if a < 0x2000 then s.setRam (s.ram.write (a % 0x0800) v)
  else if a < 0x4000 then ppuRegWrite s (a % 8) v
  else if a < 0x4014 then s
  else if a = 0x4014 then oamDma v s
  else if a = 0x4015 then s
  else if a = 0x4016 then joypadWrite s v
  else if a < 0x6000 then s
  else if a < 0x8000 then s.setCart { s.cart with prgRAM := s.cart.prgRAM.write (a - 0x6000) v }
  else s

/-- `MemRead16(a)` (R8): low byte read first. -/
def memRead16 (s : State) (a : Word) : Word × State :=
  let lo := memRead s a
  let hi := memRead lo.2 (a + 1)
  (u16 hi.1 lo.1, hi.2)

/-- `FetchByte()` (30_encoding.md section 2). -/
def fetchByte (s : State) : Byte × State :=
  let r := memRead s s.pc
  (r.1, r.2.setPc (r.2.pc + 1))

/-! ## The stack -/

/-- The stack location `0x0100 | SP` (R12). -/
def stackAddr (sp : Byte) : Word := u16 0x01 sp

/-- `Push(v)` (R17). -/
def push (v : Byte) (s : State) : State :=
  let s1 := memWrite s (stackAddr s.sp) v
  s1.setSp (s1.sp - 1)

/-- `Pop()` (R17). -/
def pop (s : State) : Byte × State :=
  memRead (s.setSp (s.sp + 1)) (stackAddr (s.sp + 1))

/-- `Push(hi8(w)); Push(lo8(w))`: the high byte first, so it lies at the higher address (R52). -/
def pushWord (w : Word) (s : State) : State := push (lo8 w) (push (hi8 w) s)

/-- `lo <- Pop(); hi <- Pop()`, as `u16(hi, lo)`. -/
def popWord (s : State) : Word × State :=
  let lo := pop s
  let hi := pop lo.2
  (u16 hi.1 lo.1, hi.2)

/-! ## Exceptions -/

/-- The NMI vector (R51). -/
def nmiVector : Word := 0xFFFA

/-- The reset vector (R51). -/
def resetVector : Word := 0xFFFC

/-- The vector of IRQ and BRK (R51). -/
def irqVector : Word := 0xFFFE

/-- Taking an exception: the entry that NMI, IRQ (R295) and BRK (R182) share. `PC` is pushed, then the status byte
`status`; `P.I` is set; `PC` is loaded from the vector. -/
def enterException (status : Byte) (vector : Word) (s : State) : State :=
  let s1 := (push status (pushWord s.pc s)).setFlag .I true
  let v := memRead16 s1 vector
  v.2.setPc v.1

/-- `raise Interrupt(vector)` (R295): the status byte has Break clear and Unused set. -/
def raiseInterrupt (vector : Word) (s : State) : State := enterException (interruptStatus s.p) vector s

/-- Returning from an exception (R298, R183): `P`, then `PC` low, `PC` high, with no adjustment. -/
def returnFromException (s : State) : State :=
  let v := pop s
  let w := popWord (v.2.setP (pulledStatus v.1))
  w.2.setPc w.1

/-! ## Placing bytes from outside the machine (log 8) -/

/-- Whether an address is memory that can hold a byte of a program: work RAM, program RAM, program ROM. -/
def isMemory (addr : Word) : Bool := decide (addr.toNat < 0x2000) || decide (0x6000 ≤ addr.toNat)

/-- Place a byte in the memory behind a CPU address, program ROM included, as a loader does. -/
def place (s : State) (addr : Word) (v : Byte) : State :=
  let a := addr.toNat
  if a < 0x2000 then s.setRam (s.ram.write (a % 0x0800) v)
  else if a < 0x6000 then s
  else if a < 0x8000 then s.setCart { s.cart with prgRAM := s.cart.prgRAM.write (a - 0x6000) v }
  else s.setCart { s.cart with prgROM := s.cart.prgROM.write (prgRomIndex s.cart a) v }

end Sys2Proof.Machine
end

