-- ==== Sys2Proof/Machine/Operands.lean ====
section
/-!
DEFINITION. Every operand form: effective addresses (30_encoding.md R75 to R83), the three operand classes of R85, and the
shared bodies of the instruction families. The operand bytes have been fetched, so `PC` is at the next instruction
(log 10).
-/

namespace Sys2Proof.Machine

/-- `cycles <- n`, the instruction is complete (R8). Its meaning passes `n`: `BASE_CYCLES` of its opcode (R88), but for
branches and unassigned opcodes. -/
def complete (n : Nat) (s : State) : Result := .next (s.setCycles n)

/-- A byte of the zero page, which the router answers from work RAM without side effect (R41, R51). -/
def zeroPage (s : State) (z : Byte) : Byte := (memRead s (u16 0x00 z)).1

/-- The pointer at `z` and `(z + 1) & 0xFF`, both in the zero page (R81, R82). -/
def zeroPagePointer (s : State) (z : Byte) : Word := u16 (zeroPage s (z + 1)) (zeroPage s z)

/-- The effective address of a memory mode (R76 to R79, R81, R82). Its pointer reads are in the zero page and have no
side effect (log 11). -/
def effAddr (m : MemMode) (s : State) : Word :=
  match m with
  | .zp d => u16 0x00 d
  | .zpx d => u16 0x00 (d + s.x)
  | .zpy d => u16 0x00 (d + s.y)
  | .abs a => a
  | .abx a => a + s.x.setWidth 16
  | .aby a => a + s.y.setWidth 16
  | .izx d => zeroPagePointer s (d + s.x)
  | .izy d => zeroPagePointer s d + s.y.setWidth 16

/-- The target of JMP `ind` (R80): the high byte comes from the same page as the low byte, and the low byte is read
first. The reads may touch a device, so the state after them comes with it. -/
def indirectTarget (ptr : Word) (s : State) : Word × State :=
  let lo := memRead s ptr
  let hi := memRead lo.2 (u16 (hi8 ptr) (lo8 ptr + 1))
  (u16 hi.1 lo.1, hi.2)

/-- A read instruction's byte `M`, and the state after its data read (R75, R85). -/
def readOperand (o : Operand) (s : State) : Byte × State :=
  match o with
  | .imm v => (v, s)
  | .mem m => memRead s (effAddr m s)

/-- A write instruction: one write at `ea`, no read of it (R85). -/
def storeByte (m : MemMode) (v : Byte) (n : Nat) (s : State) : Result := complete n (memWrite s (effAddr m s) v)

/-- A read-modify-write instruction on memory (R84, R85): one read, the result and status, one write. `f` gives the
result and the new status byte from `M` and the old status byte. -/
def modifyMem (f : Byte → Byte → Byte × Byte) (m : MemMode) (n : Nat) (s : State) : Result :=
  let r := memRead s (effAddr m s)
  let q := f r.1 r.2.p
  complete n (memWrite (r.2.setP q.2) (effAddr m s) q.1)

/-- The same on the accumulator (`acc`, R74): no memory access. -/
def modifyAcc (f : Byte → Byte → Byte × Byte) (n : Nat) (s : State) : Result :=
  let q := f s.a s.p
  complete n ((s.setA q.1).setP q.2)

/-- The common branch operation (R150): `PC` is the next instruction's address. -/
def branchOn (cond : Bool) (off : Byte) (s : State) : Result :=
  if cond then
    let target := s.pc + sext8 off
    complete (if hi8 target ≠ hi8 s.pc then 4 else 3) (s.setPc target)
  else complete 2 s

end Sys2Proof.Machine
end

