-- ==== Sys2Proof/Machine/Arithmetic.lean ====
section
/-!
DEFINITION. Arithmetic, logic, compare, bit test, increment and decrement (41_arithmetic_logic.md R121 to R135).
-/

namespace Sys2Proof.Machine

/-- ADC (R121). -/
def adcOp (o : Operand) (n : Nat) (s : State) : Result :=
  let r := readOperand o s
  complete n (addWithCarry r.1 r.2)

/-- SBC (R122): the body of ADC with the operand's one's complement. -/
def sbcOp (o : Operand) (n : Nat) (s : State) : Result :=
  let r := readOperand o s
  complete n (addWithCarry (r.1 ^^^ 0xFF) r.2)

/-- AND (R123). -/
def andOp (o : Operand) (n : Nat) (s : State) : Result :=
  let r := readOperand o s
  complete n (setZN (r.2.a &&& r.1) (r.2.setA (r.2.a &&& r.1)))

/-- ORA (R124). -/
def oraOp (o : Operand) (n : Nat) (s : State) : Result :=
  let r := readOperand o s
  complete n (setZN (r.2.a ||| r.1) (r.2.setA (r.2.a ||| r.1)))

/-- EOR (R125). -/
def eorOp (o : Operand) (n : Nat) (s : State) : Result :=
  let r := readOperand o s
  complete n (setZN (r.2.a ^^^ r.1) (r.2.setA (r.2.a ^^^ r.1)))

/-- CMP (R126). -/
def cmpOp (o : Operand) (n : Nat) (s : State) : Result :=
  let r := readOperand o s
  complete n (r.2.setP (compareStatus r.2.p r.2.a r.1))

/-- CPX (R127). -/
def cpxOp (o : Operand) (n : Nat) (s : State) : Result :=
  let r := readOperand o s
  complete n (r.2.setP (compareStatus r.2.p r.2.x r.1))

/-- CPY (R128). -/
def cpyOp (o : Operand) (n : Nat) (s : State) : Result :=
  let r := readOperand o s
  complete n (r.2.setP (compareStatus r.2.p r.2.y r.1))

/-- BIT (R129). -/
def bitOp (o : Operand) (n : Nat) (s : State) : Result :=
  let r := readOperand o s
  complete n (r.2.setP (bitStatus r.2.p r.2.a r.1))

/-- INC (R130). -/
def incMem (m : MemMode) (n : Nat) (s : State) : Result := modifyMem (fun b p => (b + 1, znStatus p (b + 1))) m n s

/-- DEC (R131). -/
def decMem (m : MemMode) (n : Nat) (s : State) : Result := modifyMem (fun b p => (b - 1, znStatus p (b - 1))) m n s

/-- INX (R132). -/
def inxOp (n : Nat) (s : State) : Result := complete n (setZN (s.x + 1) (s.setX (s.x + 1)))

/-- INY (R133). -/
def inyOp (n : Nat) (s : State) : Result := complete n (setZN (s.y + 1) (s.setY (s.y + 1)))

/-- DEX (R134). -/
def dexOp (n : Nat) (s : State) : Result := complete n (setZN (s.x - 1) (s.setX (s.x - 1)))

/-- DEY (R135). -/
def deyOp (n : Nat) (s : State) : Result := complete n (setZN (s.y - 1) (s.setY (s.y - 1)))

/-- `61` ADC izx (R121). -/
def execAdcIzx (d : Byte) (s : State) : Result := adcOp (.mem (.izx d)) (baseCount s.params 0x61) s

/-- `65` ADC zp (R121). -/
def execAdcZp (d : Byte) (s : State) : Result := adcOp (.mem (.zp d)) (baseCount s.params 0x65) s

/-- `69` ADC imm (R121). -/
def execAdcImm (v : Byte) (s : State) : Result := adcOp (.imm v) (baseCount s.params 0x69) s

/-- `6D` ADC abs (R121). -/
def execAdcAbs (a : Word) (s : State) : Result := adcOp (.mem (.abs a)) (baseCount s.params 0x6D) s

/-- `71` ADC izy (R121). -/
def execAdcIzy (d : Byte) (s : State) : Result := adcOp (.mem (.izy d)) (baseCount s.params 0x71) s

/-- `75` ADC zpx (R121). -/
def execAdcZpx (d : Byte) (s : State) : Result := adcOp (.mem (.zpx d)) (baseCount s.params 0x75) s

/-- `79` ADC aby (R121). -/
def execAdcAby (a : Word) (s : State) : Result := adcOp (.mem (.aby a)) (baseCount s.params 0x79) s

/-- `7D` ADC abx (R121). -/
def execAdcAbx (a : Word) (s : State) : Result := adcOp (.mem (.abx a)) (baseCount s.params 0x7D) s

/-- `E1` SBC izx (R122). -/
def execSbcIzx (d : Byte) (s : State) : Result := sbcOp (.mem (.izx d)) (baseCount s.params 0xE1) s

/-- `E5` SBC zp (R122). -/
def execSbcZp (d : Byte) (s : State) : Result := sbcOp (.mem (.zp d)) (baseCount s.params 0xE5) s

/-- `E9` SBC imm (R122). -/
def execSbcImm (v : Byte) (s : State) : Result := sbcOp (.imm v) (baseCount s.params 0xE9) s

/-- `ED` SBC abs (R122). -/
def execSbcAbs (a : Word) (s : State) : Result := sbcOp (.mem (.abs a)) (baseCount s.params 0xED) s

/-- `F1` SBC izy (R122). -/
def execSbcIzy (d : Byte) (s : State) : Result := sbcOp (.mem (.izy d)) (baseCount s.params 0xF1) s

/-- `F5` SBC zpx (R122). -/
def execSbcZpx (d : Byte) (s : State) : Result := sbcOp (.mem (.zpx d)) (baseCount s.params 0xF5) s

/-- `F9` SBC aby (R122). -/
def execSbcAby (a : Word) (s : State) : Result := sbcOp (.mem (.aby a)) (baseCount s.params 0xF9) s

/-- `FD` SBC abx (R122). -/
def execSbcAbx (a : Word) (s : State) : Result := sbcOp (.mem (.abx a)) (baseCount s.params 0xFD) s

/-- `21` AND izx (R123). -/
def execAndIzx (d : Byte) (s : State) : Result := andOp (.mem (.izx d)) (baseCount s.params 0x21) s

/-- `25` AND zp (R123). -/
def execAndZp (d : Byte) (s : State) : Result := andOp (.mem (.zp d)) (baseCount s.params 0x25) s

/-- `29` AND imm (R123). -/
def execAndImm (v : Byte) (s : State) : Result := andOp (.imm v) (baseCount s.params 0x29) s

/-- `2D` AND abs (R123). -/
def execAndAbs (a : Word) (s : State) : Result := andOp (.mem (.abs a)) (baseCount s.params 0x2D) s

/-- `31` AND izy (R123). -/
def execAndIzy (d : Byte) (s : State) : Result := andOp (.mem (.izy d)) (baseCount s.params 0x31) s

/-- `35` AND zpx (R123). -/
def execAndZpx (d : Byte) (s : State) : Result := andOp (.mem (.zpx d)) (baseCount s.params 0x35) s

/-- `39` AND aby (R123). -/
def execAndAby (a : Word) (s : State) : Result := andOp (.mem (.aby a)) (baseCount s.params 0x39) s

/-- `3D` AND abx (R123). -/
def execAndAbx (a : Word) (s : State) : Result := andOp (.mem (.abx a)) (baseCount s.params 0x3D) s

/-- `01` ORA izx (R124). -/
def execOraIzx (d : Byte) (s : State) : Result := oraOp (.mem (.izx d)) (baseCount s.params 0x01) s

/-- `05` ORA zp (R124). -/
def execOraZp (d : Byte) (s : State) : Result := oraOp (.mem (.zp d)) (baseCount s.params 0x05) s

/-- `09` ORA imm (R124). -/
def execOraImm (v : Byte) (s : State) : Result := oraOp (.imm v) (baseCount s.params 0x09) s

/-- `0D` ORA abs (R124). -/
def execOraAbs (a : Word) (s : State) : Result := oraOp (.mem (.abs a)) (baseCount s.params 0x0D) s

/-- `11` ORA izy (R124). -/
def execOraIzy (d : Byte) (s : State) : Result := oraOp (.mem (.izy d)) (baseCount s.params 0x11) s

/-- `15` ORA zpx (R124). -/
def execOraZpx (d : Byte) (s : State) : Result := oraOp (.mem (.zpx d)) (baseCount s.params 0x15) s

/-- `19` ORA aby (R124). -/
def execOraAby (a : Word) (s : State) : Result := oraOp (.mem (.aby a)) (baseCount s.params 0x19) s

/-- `1D` ORA abx (R124). -/
def execOraAbx (a : Word) (s : State) : Result := oraOp (.mem (.abx a)) (baseCount s.params 0x1D) s

/-- `41` EOR izx (R125). -/
def execEorIzx (d : Byte) (s : State) : Result := eorOp (.mem (.izx d)) (baseCount s.params 0x41) s

/-- `45` EOR zp (R125). -/
def execEorZp (d : Byte) (s : State) : Result := eorOp (.mem (.zp d)) (baseCount s.params 0x45) s

/-- `49` EOR imm (R125). -/
def execEorImm (v : Byte) (s : State) : Result := eorOp (.imm v) (baseCount s.params 0x49) s

/-- `4D` EOR abs (R125). -/
def execEorAbs (a : Word) (s : State) : Result := eorOp (.mem (.abs a)) (baseCount s.params 0x4D) s

/-- `51` EOR izy (R125). -/
def execEorIzy (d : Byte) (s : State) : Result := eorOp (.mem (.izy d)) (baseCount s.params 0x51) s

/-- `55` EOR zpx (R125). -/
def execEorZpx (d : Byte) (s : State) : Result := eorOp (.mem (.zpx d)) (baseCount s.params 0x55) s

/-- `59` EOR aby (R125). -/
def execEorAby (a : Word) (s : State) : Result := eorOp (.mem (.aby a)) (baseCount s.params 0x59) s

/-- `5D` EOR abx (R125). -/
def execEorAbx (a : Word) (s : State) : Result := eorOp (.mem (.abx a)) (baseCount s.params 0x5D) s

/-- `C1` CMP izx (R126). -/
def execCmpIzx (d : Byte) (s : State) : Result := cmpOp (.mem (.izx d)) (baseCount s.params 0xC1) s

/-- `C5` CMP zp (R126). -/
def execCmpZp (d : Byte) (s : State) : Result := cmpOp (.mem (.zp d)) (baseCount s.params 0xC5) s

/-- `C9` CMP imm (R126). -/
def execCmpImm (v : Byte) (s : State) : Result := cmpOp (.imm v) (baseCount s.params 0xC9) s

/-- `CD` CMP abs (R126). -/
def execCmpAbs (a : Word) (s : State) : Result := cmpOp (.mem (.abs a)) (baseCount s.params 0xCD) s

/-- `D1` CMP izy (R126). -/
def execCmpIzy (d : Byte) (s : State) : Result := cmpOp (.mem (.izy d)) (baseCount s.params 0xD1) s

/-- `D5` CMP zpx (R126). -/
def execCmpZpx (d : Byte) (s : State) : Result := cmpOp (.mem (.zpx d)) (baseCount s.params 0xD5) s

/-- `D9` CMP aby (R126). -/
def execCmpAby (a : Word) (s : State) : Result := cmpOp (.mem (.aby a)) (baseCount s.params 0xD9) s

/-- `DD` CMP abx (R126). -/
def execCmpAbx (a : Word) (s : State) : Result := cmpOp (.mem (.abx a)) (baseCount s.params 0xDD) s

/-- `E0` CPX imm (R127). -/
def execCpxImm (v : Byte) (s : State) : Result := cpxOp (.imm v) (baseCount s.params 0xE0) s

/-- `E4` CPX zp (R127). -/
def execCpxZp (d : Byte) (s : State) : Result := cpxOp (.mem (.zp d)) (baseCount s.params 0xE4) s

/-- `EC` CPX abs (R127). -/
def execCpxAbs (a : Word) (s : State) : Result := cpxOp (.mem (.abs a)) (baseCount s.params 0xEC) s

/-- `C0` CPY imm (R128). -/
def execCpyImm (v : Byte) (s : State) : Result := cpyOp (.imm v) (baseCount s.params 0xC0) s

/-- `C4` CPY zp (R128). -/
def execCpyZp (d : Byte) (s : State) : Result := cpyOp (.mem (.zp d)) (baseCount s.params 0xC4) s

/-- `CC` CPY abs (R128). -/
def execCpyAbs (a : Word) (s : State) : Result := cpyOp (.mem (.abs a)) (baseCount s.params 0xCC) s

/-- `24` BIT zp (R129). -/
def execBitZp (d : Byte) (s : State) : Result := bitOp (.mem (.zp d)) (baseCount s.params 0x24) s

/-- `2C` BIT abs (R129). -/
def execBitAbs (a : Word) (s : State) : Result := bitOp (.mem (.abs a)) (baseCount s.params 0x2C) s

/-- `E6` INC zp (R130). -/
def execIncZp (d : Byte) (s : State) : Result := incMem (.zp d) (baseCount s.params 0xE6) s

/-- `EE` INC abs (R130). -/
def execIncAbs (a : Word) (s : State) : Result := incMem (.abs a) (baseCount s.params 0xEE) s

/-- `F6` INC zpx (R130). -/
def execIncZpx (d : Byte) (s : State) : Result := incMem (.zpx d) (baseCount s.params 0xF6) s

/-- `FE` INC abx (R130). -/
def execIncAbx (a : Word) (s : State) : Result := incMem (.abx a) (baseCount s.params 0xFE) s

/-- `C6` DEC zp (R131). -/
def execDecZp (d : Byte) (s : State) : Result := decMem (.zp d) (baseCount s.params 0xC6) s

/-- `CE` DEC abs (R131). -/
def execDecAbs (a : Word) (s : State) : Result := decMem (.abs a) (baseCount s.params 0xCE) s

/-- `D6` DEC zpx (R131). -/
def execDecZpx (d : Byte) (s : State) : Result := decMem (.zpx d) (baseCount s.params 0xD6) s

/-- `DE` DEC abx (R131). -/
def execDecAbx (a : Word) (s : State) : Result := decMem (.abx a) (baseCount s.params 0xDE) s

/-- `E8` INX imp (R132). -/
def execInx (s : State) : Result := inxOp (baseCount s.params 0xE8) s

/-- `C8` INY imp (R133). -/
def execIny (s : State) : Result := inyOp (baseCount s.params 0xC8) s

/-- `CA` DEX imp (R134). -/
def execDex (s : State) : Result := dexOp (baseCount s.params 0xCA) s

/-- `88` DEY imp (R135). -/
def execDey (s : State) : Result := deyOp (baseCount s.params 0x88) s

end Sys2Proof.Machine
end

