-- ==== Sys2Proof/Machine/Branch.lean ====
section
/-!
DEFINITION. Branches, jumps, subroutine call and return (43_branch_jump.md R150 to R161).
-/

namespace Sys2Proof.Machine

/-- BPL (R151): `P.N == 0`. -/
def bplOp (off : Byte) (s : State) : Result := branchOn (!s.flag .N) off s

/-- BMI (R152): `P.N == 1`. -/
def bmiOp (off : Byte) (s : State) : Result := branchOn (s.flag .N) off s

/-- BVC (R153): `P.V == 0`. -/
def bvcOp (off : Byte) (s : State) : Result := branchOn (!s.flag .V) off s

/-- BVS (R154): `P.V == 1`. -/
def bvsOp (off : Byte) (s : State) : Result := branchOn (s.flag .V) off s

/-- BCC (R155): `P.C == 0`. -/
def bccOp (off : Byte) (s : State) : Result := branchOn (!s.flag .C) off s

/-- BCS (R156): `P.C == 1`. -/
def bcsOp (off : Byte) (s : State) : Result := branchOn (s.flag .C) off s

/-- BNE (R157): `P.Z == 0`. -/
def bneOp (off : Byte) (s : State) : Result := branchOn (!s.flag .Z) off s

/-- BEQ (R158): `P.Z == 1`. -/
def beqOp (off : Byte) (s : State) : Result := branchOn (s.flag .Z) off s

/-- JMP `abs` (R159). -/
def jmpOpAbs (a : Word) (n : Nat) (s : State) : Result := complete n (s.setPc a)

/-- JMP `ind` (R159), with the page-wrap of R80. -/
def jmpOpInd (a : Word) (n : Nat) (s : State) : Result :=
  let t := indirectTarget a s
  complete n (t.2.setPc t.1)

/-- JSR (R160): the address of its own last byte, which is `PC - 1`, is pushed high byte first. -/
def jsrOp (a : Word) (n : Nat) (s : State) : Result := complete n ((pushWord (s.pc - 1) s).setPc a)

/-- RTS (R161). -/
def rtsOp (n : Nat) (s : State) : Result :=
  let w := popWord s
  complete n (w.2.setPc (w.1 + 1))

/-- `10` BPL rel (R151). -/
def execBpl (off : Byte) (s : State) : Result := bplOp off s

/-- `30` BMI rel (R152). -/
def execBmi (off : Byte) (s : State) : Result := bmiOp off s

/-- `50` BVC rel (R153). -/
def execBvc (off : Byte) (s : State) : Result := bvcOp off s

/-- `70` BVS rel (R154). -/
def execBvs (off : Byte) (s : State) : Result := bvsOp off s

/-- `90` BCC rel (R155). -/
def execBcc (off : Byte) (s : State) : Result := bccOp off s

/-- `B0` BCS rel (R156). -/
def execBcs (off : Byte) (s : State) : Result := bcsOp off s

/-- `D0` BNE rel (R157). -/
def execBne (off : Byte) (s : State) : Result := bneOp off s

/-- `F0` BEQ rel (R158). -/
def execBeq (off : Byte) (s : State) : Result := beqOp off s

/-- `4C` JMP abs (R159). -/
def execJmpAbs (a : Word) (s : State) : Result := jmpOpAbs a (baseCount s.params 0x4C) s

/-- `6C` JMP ind (R159). -/
def execJmpInd (a : Word) (s : State) : Result := jmpOpInd a (baseCount s.params 0x6C) s

/-- `20` JSR abs (R160). -/
def execJsr (a : Word) (s : State) : Result := jsrOp a (baseCount s.params 0x20) s

/-- `60` RTS imp (R161). -/
def execRts (s : State) : Result := rtsOp (baseCount s.params 0x60) s

end Sys2Proof.Machine
end

