-- ==== Sys2Proof/Machine/LoadStore.lean ====
section
/-!
DEFINITION. Loads, stores and register transfers (40_load_store_transfer.md R100 to R111): the operation of each mnemonic, then
one meaning per opcode.
-/

namespace Sys2Proof.Machine

/-- LDA (R100). -/
def ldaOp (o : Operand) (n : Nat) (s : State) : Result :=
  let r := readOperand o s
  complete n (setZN r.1 (r.2.setA r.1))

/-- LDX (R101). -/
def ldxOp (o : Operand) (n : Nat) (s : State) : Result :=
  let r := readOperand o s
  complete n (setZN r.1 (r.2.setX r.1))

/-- LDY (R102). -/
def ldyOp (o : Operand) (n : Nat) (s : State) : Result :=
  let r := readOperand o s
  complete n (setZN r.1 (r.2.setY r.1))

/-- STA (R103). -/
def staOp (m : MemMode) (n : Nat) (s : State) : Result := storeByte m s.a n s

/-- STX (R104). -/
def stxOp (m : MemMode) (n : Nat) (s : State) : Result := storeByte m s.x n s

/-- STY (R105). -/
def styOp (m : MemMode) (n : Nat) (s : State) : Result := storeByte m s.y n s

/-- TAX (R106). -/
def taxOp (n : Nat) (s : State) : Result := complete n (setZN s.a (s.setX s.a))

/-- TAY (R107). -/
def tayOp (n : Nat) (s : State) : Result := complete n (setZN s.a (s.setY s.a))

/-- TXA (R108). -/
def txaOp (n : Nat) (s : State) : Result := complete n (setZN s.x (s.setA s.x))

/-- TYA (R109). -/
def tyaOp (n : Nat) (s : State) : Result := complete n (setZN s.y (s.setA s.y))

/-- TSX (R110). -/
def tsxOp (n : Nat) (s : State) : Result := complete n (setZN s.sp (s.setX s.sp))

/-- TXS (R111): it does not call `setZN`. -/
def txsOp (n : Nat) (s : State) : Result := complete n (s.setSp s.x)

/-- `A1` LDA izx (R100). -/
def execLdaIzx (d : Byte) (s : State) : Result := ldaOp (.mem (.izx d)) (baseCount s.params 0xA1) s

/-- `A5` LDA zp (R100). -/
def execLdaZp (d : Byte) (s : State) : Result := ldaOp (.mem (.zp d)) (baseCount s.params 0xA5) s

/-- `A9` LDA imm (R100). -/
def execLdaImm (v : Byte) (s : State) : Result := ldaOp (.imm v) (baseCount s.params 0xA9) s

/-- `AD` LDA abs (R100). -/
def execLdaAbs (a : Word) (s : State) : Result := ldaOp (.mem (.abs a)) (baseCount s.params 0xAD) s

/-- `B1` LDA izy (R100). -/
def execLdaIzy (d : Byte) (s : State) : Result := ldaOp (.mem (.izy d)) (baseCount s.params 0xB1) s

/-- `B5` LDA zpx (R100). -/
def execLdaZpx (d : Byte) (s : State) : Result := ldaOp (.mem (.zpx d)) (baseCount s.params 0xB5) s

/-- `B9` LDA aby (R100). -/
def execLdaAby (a : Word) (s : State) : Result := ldaOp (.mem (.aby a)) (baseCount s.params 0xB9) s

/-- `BD` LDA abx (R100). -/
def execLdaAbx (a : Word) (s : State) : Result := ldaOp (.mem (.abx a)) (baseCount s.params 0xBD) s

/-- `A2` LDX imm (R101). -/
def execLdxImm (v : Byte) (s : State) : Result := ldxOp (.imm v) (baseCount s.params 0xA2) s

/-- `A6` LDX zp (R101). -/
def execLdxZp (d : Byte) (s : State) : Result := ldxOp (.mem (.zp d)) (baseCount s.params 0xA6) s

/-- `AE` LDX abs (R101). -/
def execLdxAbs (a : Word) (s : State) : Result := ldxOp (.mem (.abs a)) (baseCount s.params 0xAE) s

/-- `B6` LDX zpy (R101). -/
def execLdxZpy (d : Byte) (s : State) : Result := ldxOp (.mem (.zpy d)) (baseCount s.params 0xB6) s

/-- `BE` LDX aby (R101). -/
def execLdxAby (a : Word) (s : State) : Result := ldxOp (.mem (.aby a)) (baseCount s.params 0xBE) s

/-- `A0` LDY imm (R102). -/
def execLdyImm (v : Byte) (s : State) : Result := ldyOp (.imm v) (baseCount s.params 0xA0) s

/-- `A4` LDY zp (R102). -/
def execLdyZp (d : Byte) (s : State) : Result := ldyOp (.mem (.zp d)) (baseCount s.params 0xA4) s

/-- `AC` LDY abs (R102). -/
def execLdyAbs (a : Word) (s : State) : Result := ldyOp (.mem (.abs a)) (baseCount s.params 0xAC) s

/-- `B4` LDY zpx (R102). -/
def execLdyZpx (d : Byte) (s : State) : Result := ldyOp (.mem (.zpx d)) (baseCount s.params 0xB4) s

/-- `BC` LDY abx (R102). -/
def execLdyAbx (a : Word) (s : State) : Result := ldyOp (.mem (.abx a)) (baseCount s.params 0xBC) s

/-- `81` STA izx (R103). -/
def execStaIzx (d : Byte) (s : State) : Result := staOp (.izx d) (baseCount s.params 0x81) s

/-- `85` STA zp (R103). -/
def execStaZp (d : Byte) (s : State) : Result := staOp (.zp d) (baseCount s.params 0x85) s

/-- `8D` STA abs (R103). -/
def execStaAbs (a : Word) (s : State) : Result := staOp (.abs a) (baseCount s.params 0x8D) s

/-- `91` STA izy (R103). -/
def execStaIzy (d : Byte) (s : State) : Result := staOp (.izy d) (baseCount s.params 0x91) s

/-- `95` STA zpx (R103). -/
def execStaZpx (d : Byte) (s : State) : Result := staOp (.zpx d) (baseCount s.params 0x95) s

/-- `99` STA aby (R103). -/
def execStaAby (a : Word) (s : State) : Result := staOp (.aby a) (baseCount s.params 0x99) s

/-- `9D` STA abx (R103). -/
def execStaAbx (a : Word) (s : State) : Result := staOp (.abx a) (baseCount s.params 0x9D) s

/-- `86` STX zp (R104). -/
def execStxZp (d : Byte) (s : State) : Result := stxOp (.zp d) (baseCount s.params 0x86) s

/-- `8E` STX abs (R104). -/
def execStxAbs (a : Word) (s : State) : Result := stxOp (.abs a) (baseCount s.params 0x8E) s

/-- `96` STX zpy (R104). -/
def execStxZpy (d : Byte) (s : State) : Result := stxOp (.zpy d) (baseCount s.params 0x96) s

/-- `84` STY zp (R105). -/
def execStyZp (d : Byte) (s : State) : Result := styOp (.zp d) (baseCount s.params 0x84) s

/-- `8C` STY abs (R105). -/
def execStyAbs (a : Word) (s : State) : Result := styOp (.abs a) (baseCount s.params 0x8C) s

/-- `94` STY zpx (R105). -/
def execStyZpx (d : Byte) (s : State) : Result := styOp (.zpx d) (baseCount s.params 0x94) s

/-- `AA` TAX imp (R106). -/
def execTax (s : State) : Result := taxOp (baseCount s.params 0xAA) s

/-- `A8` TAY imp (R107). -/
def execTay (s : State) : Result := tayOp (baseCount s.params 0xA8) s

/-- `8A` TXA imp (R108). -/
def execTxa (s : State) : Result := txaOp (baseCount s.params 0x8A) s

/-- `98` TYA imp (R109). -/
def execTya (s : State) : Result := tyaOp (baseCount s.params 0x98) s

/-- `BA` TSX imp (R110). -/
def execTsx (s : State) : Result := tsxOp (baseCount s.params 0xBA) s

/-- `9A` TXS imp (R111). -/
def execTxs (s : State) : Result := txsOp (baseCount s.params 0x9A) s

end Sys2Proof.Machine
end

