-- ==== Sys2Proof/Machine/Shift.lean ====
section
/-!
DEFINITION. Shifts and rotates (42_shift_rotate.md R140 to R143).
-/

namespace Sys2Proof.Machine

/-- A shift's result and status byte from the byte and the old status byte, whose carry it may take in (R140 to
R143). -/
def shiftWith (f : Byte → Bool → Byte × Bool) (b p : Byte) : Byte × Byte :=
  let r := f b (flagOf p .C)
  (r.1, shiftStatus p r)

/-- ASL on the accumulator (R140). -/
def aslAcc (n : Nat) (s : State) : Result := modifyAcc (shiftWith aslByte) n s

/-- ASL on memory (R140). -/
def aslMem (m : MemMode) (n : Nat) (s : State) : Result := modifyMem (shiftWith aslByte) m n s

/-- LSR on the accumulator (R141). -/
def lsrAcc (n : Nat) (s : State) : Result := modifyAcc (shiftWith lsrByte) n s

/-- LSR on memory (R141). -/
def lsrMem (m : MemMode) (n : Nat) (s : State) : Result := modifyMem (shiftWith lsrByte) m n s

/-- ROL on the accumulator (R142). -/
def rolAcc (n : Nat) (s : State) : Result := modifyAcc (shiftWith rolByte) n s

/-- ROL on memory (R142). -/
def rolMem (m : MemMode) (n : Nat) (s : State) : Result := modifyMem (shiftWith rolByte) m n s

/-- ROR on the accumulator (R143). -/
def rorAcc (n : Nat) (s : State) : Result := modifyAcc (shiftWith rorByte) n s

/-- ROR on memory (R143). -/
def rorMem (m : MemMode) (n : Nat) (s : State) : Result := modifyMem (shiftWith rorByte) m n s

/-- `06` ASL zp (R140). -/
def execAslZp (d : Byte) (s : State) : Result := aslMem (.zp d) (baseCount s.params 0x06) s

/-- `0A` ASL acc (R140). -/
def execAslAcc (s : State) : Result := aslAcc (baseCount s.params 0x0A) s

/-- `0E` ASL abs (R140). -/
def execAslAbs (a : Word) (s : State) : Result := aslMem (.abs a) (baseCount s.params 0x0E) s

/-- `16` ASL zpx (R140). -/
def execAslZpx (d : Byte) (s : State) : Result := aslMem (.zpx d) (baseCount s.params 0x16) s

/-- `1E` ASL abx (R140). -/
def execAslAbx (a : Word) (s : State) : Result := aslMem (.abx a) (baseCount s.params 0x1E) s

/-- `46` LSR zp (R141). -/
def execLsrZp (d : Byte) (s : State) : Result := lsrMem (.zp d) (baseCount s.params 0x46) s

/-- `4A` LSR acc (R141). -/
def execLsrAcc (s : State) : Result := lsrAcc (baseCount s.params 0x4A) s

/-- `4E` LSR abs (R141). -/
def execLsrAbs (a : Word) (s : State) : Result := lsrMem (.abs a) (baseCount s.params 0x4E) s

/-- `56` LSR zpx (R141). -/
def execLsrZpx (d : Byte) (s : State) : Result := lsrMem (.zpx d) (baseCount s.params 0x56) s

/-- `5E` LSR abx (R141). -/
def execLsrAbx (a : Word) (s : State) : Result := lsrMem (.abx a) (baseCount s.params 0x5E) s

/-- `26` ROL zp (R142). -/
def execRolZp (d : Byte) (s : State) : Result := rolMem (.zp d) (baseCount s.params 0x26) s

/-- `2A` ROL acc (R142). -/
def execRolAcc (s : State) : Result := rolAcc (baseCount s.params 0x2A) s

/-- `2E` ROL abs (R142). -/
def execRolAbs (a : Word) (s : State) : Result := rolMem (.abs a) (baseCount s.params 0x2E) s

/-- `36` ROL zpx (R142). -/
def execRolZpx (d : Byte) (s : State) : Result := rolMem (.zpx d) (baseCount s.params 0x36) s

/-- `3E` ROL abx (R142). -/
def execRolAbx (a : Word) (s : State) : Result := rolMem (.abx a) (baseCount s.params 0x3E) s

/-- `66` ROR zp (R143). -/
def execRorZp (d : Byte) (s : State) : Result := rorMem (.zp d) (baseCount s.params 0x66) s

/-- `6A` ROR acc (R143). -/
def execRorAcc (s : State) : Result := rorAcc (baseCount s.params 0x6A) s

/-- `6E` ROR abs (R143). -/
def execRorAbs (a : Word) (s : State) : Result := rorMem (.abs a) (baseCount s.params 0x6E) s

/-- `76` ROR zpx (R143). -/
def execRorZpx (d : Byte) (s : State) : Result := rorMem (.zpx d) (baseCount s.params 0x76) s

/-- `7E` ROR abx (R143). -/
def execRorAbx (a : Word) (s : State) : Result := rorMem (.abx a) (baseCount s.params 0x7E) s

end Sys2Proof.Machine
end

