-- ==== Sys2Proof/Machine/System.lean ====
section
/-!
DEFINITION. Stack, flag and system instructions (44_stack_flag_system.md R170 to R183).
-/

namespace Sys2Proof.Machine

/-- PHA (R170). -/
def phaOp (n : Nat) (s : State) : Result := complete n (push s.a s)

/-- PHP (R171): Break and Unused are set in the pushed byte. -/
def phpOp (n : Nat) (s : State) : Result := complete n (push (softwareStatus s.p) s)

/-- PLA (R172). -/
def plaOp (n : Nat) (s : State) : Result :=
  let v := pop s
  complete n (setZN v.1 (v.2.setA v.1))

/-- PLP (R173). -/
def plpOp (n : Nat) (s : State) : Result :=
  let v := pop s
  complete n (v.2.setP (pulledStatus v.1))

/-- CLC (R174). -/
def clcOp (n : Nat) (s : State) : Result := complete n (s.setFlag .C false)

/-- SEC (R175). -/
def secOp (n : Nat) (s : State) : Result := complete n (s.setFlag .C true)

/-- CLI (R176). -/
def cliOp (n : Nat) (s : State) : Result := complete n (s.setFlag .I false)

/-- SEI (R177). -/
def seiOp (n : Nat) (s : State) : Result := complete n (s.setFlag .I true)

/-- CLD (R178). -/
def cldOp (n : Nat) (s : State) : Result := complete n (s.setFlag .D false)

/-- SED (R179). -/
def sedOp (n : Nat) (s : State) : Result := complete n (s.setFlag .D true)

/-- CLV (R180). -/
def clvOp (n : Nat) (s : State) : Result := complete n (s.setFlag .V false)

/-- NOP (R181). -/
def nopOp (n : Nat) (s : State) : Result := complete n s

/-- BRK (R182): it takes the exception at `$FFFE` with the address of BRK + 2 and with Break set in the pushed byte;
the byte after the opcode is skipped, not read. -/
def brkOp (n : Nat) (s : State) : Result :=
  complete n (enterException (softwareStatus s.p) irqVector (s.setPc (s.pc + 1)))

/-- RTI (R183). -/
def rtiOp (n : Nat) (s : State) : Result := complete n (returnFromException s)

/-- `48` PHA imp (R170). -/
def execPha (s : State) : Result := phaOp (baseCount s.params 0x48) s

/-- `08` PHP imp (R171). -/
def execPhp (s : State) : Result := phpOp (baseCount s.params 0x08) s

/-- `68` PLA imp (R172). -/
def execPla (s : State) : Result := plaOp (baseCount s.params 0x68) s

/-- `28` PLP imp (R173). -/
def execPlp (s : State) : Result := plpOp (baseCount s.params 0x28) s

/-- `18` CLC imp (R174). -/
def execClc (s : State) : Result := clcOp (baseCount s.params 0x18) s

/-- `38` SEC imp (R175). -/
def execSec (s : State) : Result := secOp (baseCount s.params 0x38) s

/-- `58` CLI imp (R176). -/
def execCli (s : State) : Result := cliOp (baseCount s.params 0x58) s

/-- `78` SEI imp (R177). -/
def execSei (s : State) : Result := seiOp (baseCount s.params 0x78) s

/-- `D8` CLD imp (R178). -/
def execCld (s : State) : Result := cldOp (baseCount s.params 0xD8) s

/-- `F8` SED imp (R179). -/
def execSed (s : State) : Result := sedOp (baseCount s.params 0xF8) s

/-- `B8` CLV imp (R180). -/
def execClv (s : State) : Result := clvOp (baseCount s.params 0xB8) s

/-- `EA` NOP imp (R181). -/
def execNop (s : State) : Result := nopOp (baseCount s.params 0xEA) s

/-- `00` BRK imp (R182). -/
def execBrk (s : State) : Result := brkOp (baseCount s.params 0x00) s

/-- `40` RTI imp (R183). -/
def execRti (s : State) : Result := rtiOp (baseCount s.params 0x40) s

end Sys2Proof.Machine
end

