-- ==== Sys2Proof/Machine/Unassigned.lean ====
section
/-!
DEFINITION. The 105 unassigned opcodes (30_encoding.md R87, 44_stack_flag_system.md R186), one meaning each.
-/

namespace Sys2Proof.Machine

/-- An unassigned opcode (R186): a one-byte, 2-cycle no-op. -/
def noOperation (s : State) : Result := complete 2 s

/-- `02` unassigned imp (R186). -/
def execUnassigned02 (s : State) : Result := noOperation s

/-- `03` unassigned imp (R186). -/
def execUnassigned03 (s : State) : Result := noOperation s

/-- `04` unassigned imp (R186). -/
def execUnassigned04 (s : State) : Result := noOperation s

/-- `07` unassigned imp (R186). -/
def execUnassigned07 (s : State) : Result := noOperation s

/-- `0B` unassigned imp (R186). -/
def execUnassigned0B (s : State) : Result := noOperation s

/-- `0C` unassigned imp (R186). -/
def execUnassigned0C (s : State) : Result := noOperation s

/-- `0F` unassigned imp (R186). -/
def execUnassigned0F (s : State) : Result := noOperation s

/-- `12` unassigned imp (R186). -/
def execUnassigned12 (s : State) : Result := noOperation s

/-- `13` unassigned imp (R186). -/
def execUnassigned13 (s : State) : Result := noOperation s

/-- `14` unassigned imp (R186). -/
def execUnassigned14 (s : State) : Result := noOperation s

/-- `17` unassigned imp (R186). -/
def execUnassigned17 (s : State) : Result := noOperation s

/-- `1A` unassigned imp (R186). -/
def execUnassigned1A (s : State) : Result := noOperation s

/-- `1B` unassigned imp (R186). -/
def execUnassigned1B (s : State) : Result := noOperation s

/-- `1C` unassigned imp (R186). -/
def execUnassigned1C (s : State) : Result := noOperation s

/-- `1F` unassigned imp (R186). -/
def execUnassigned1F (s : State) : Result := noOperation s

/-- `22` unassigned imp (R186). -/
def execUnassigned22 (s : State) : Result := noOperation s

/-- `23` unassigned imp (R186). -/
def execUnassigned23 (s : State) : Result := noOperation s

/-- `27` unassigned imp (R186). -/
def execUnassigned27 (s : State) : Result := noOperation s

/-- `2B` unassigned imp (R186). -/
def execUnassigned2B (s : State) : Result := noOperation s

/-- `2F` unassigned imp (R186). -/
def execUnassigned2F (s : State) : Result := noOperation s

/-- `32` unassigned imp (R186). -/
def execUnassigned32 (s : State) : Result := noOperation s

/-- `33` unassigned imp (R186). -/
def execUnassigned33 (s : State) : Result := noOperation s

/-- `34` unassigned imp (R186). -/
def execUnassigned34 (s : State) : Result := noOperation s

/-- `37` unassigned imp (R186). -/
def execUnassigned37 (s : State) : Result := noOperation s

/-- `3A` unassigned imp (R186). -/
def execUnassigned3A (s : State) : Result := noOperation s

/-- `3B` unassigned imp (R186). -/
def execUnassigned3B (s : State) : Result := noOperation s

/-- `3C` unassigned imp (R186). -/
def execUnassigned3C (s : State) : Result := noOperation s

/-- `3F` unassigned imp (R186). -/
def execUnassigned3F (s : State) : Result := noOperation s

/-- `42` unassigned imp (R186). -/
def execUnassigned42 (s : State) : Result := noOperation s

/-- `43` unassigned imp (R186). -/
def execUnassigned43 (s : State) : Result := noOperation s

/-- `44` unassigned imp (R186). -/
def execUnassigned44 (s : State) : Result := noOperation s

/-- `47` unassigned imp (R186). -/
def execUnassigned47 (s : State) : Result := noOperation s

/-- `4B` unassigned imp (R186). -/
def execUnassigned4B (s : State) : Result := noOperation s

/-- `4F` unassigned imp (R186). -/
def execUnassigned4F (s : State) : Result := noOperation s

/-- `52` unassigned imp (R186). -/
def execUnassigned52 (s : State) : Result := noOperation s

/-- `53` unassigned imp (R186). -/
def execUnassigned53 (s : State) : Result := noOperation s

/-- `54` unassigned imp (R186). -/
def execUnassigned54 (s : State) : Result := noOperation s

/-- `57` unassigned imp (R186). -/
def execUnassigned57 (s : State) : Result := noOperation s

/-- `5A` unassigned imp (R186). -/
def execUnassigned5A (s : State) : Result := noOperation s

/-- `5B` unassigned imp (R186). -/
def execUnassigned5B (s : State) : Result := noOperation s

/-- `5C` unassigned imp (R186). -/
def execUnassigned5C (s : State) : Result := noOperation s

/-- `5F` unassigned imp (R186). -/
def execUnassigned5F (s : State) : Result := noOperation s

/-- `62` unassigned imp (R186). -/
def execUnassigned62 (s : State) : Result := noOperation s

/-- `63` unassigned imp (R186). -/
def execUnassigned63 (s : State) : Result := noOperation s

/-- `64` unassigned imp (R186). -/
def execUnassigned64 (s : State) : Result := noOperation s

/-- `67` unassigned imp (R186). -/
def execUnassigned67 (s : State) : Result := noOperation s

/-- `6B` unassigned imp (R186). -/
def execUnassigned6B (s : State) : Result := noOperation s

/-- `6F` unassigned imp (R186). -/
def execUnassigned6F (s : State) : Result := noOperation s

/-- `72` unassigned imp (R186). -/
def execUnassigned72 (s : State) : Result := noOperation s

/-- `73` unassigned imp (R186). -/
def execUnassigned73 (s : State) : Result := noOperation s

/-- `74` unassigned imp (R186). -/
def execUnassigned74 (s : State) : Result := noOperation s

/-- `77` unassigned imp (R186). -/
def execUnassigned77 (s : State) : Result := noOperation s

/-- `7A` unassigned imp (R186). -/
def execUnassigned7A (s : State) : Result := noOperation s

/-- `7B` unassigned imp (R186). -/
def execUnassigned7B (s : State) : Result := noOperation s

/-- `7C` unassigned imp (R186). -/
def execUnassigned7C (s : State) : Result := noOperation s

/-- `7F` unassigned imp (R186). -/
def execUnassigned7F (s : State) : Result := noOperation s

/-- `80` unassigned imp (R186). -/
def execUnassigned80 (s : State) : Result := noOperation s

/-- `82` unassigned imp (R186). -/
def execUnassigned82 (s : State) : Result := noOperation s

/-- `83` unassigned imp (R186). -/
def execUnassigned83 (s : State) : Result := noOperation s

/-- `87` unassigned imp (R186). -/
def execUnassigned87 (s : State) : Result := noOperation s

/-- `89` unassigned imp (R186). -/
def execUnassigned89 (s : State) : Result := noOperation s

/-- `8B` unassigned imp (R186). -/
def execUnassigned8B (s : State) : Result := noOperation s

/-- `8F` unassigned imp (R186). -/
def execUnassigned8F (s : State) : Result := noOperation s

/-- `92` unassigned imp (R186). -/
def execUnassigned92 (s : State) : Result := noOperation s

/-- `93` unassigned imp (R186). -/
def execUnassigned93 (s : State) : Result := noOperation s

/-- `97` unassigned imp (R186). -/
def execUnassigned97 (s : State) : Result := noOperation s

/-- `9B` unassigned imp (R186). -/
def execUnassigned9B (s : State) : Result := noOperation s

/-- `9C` unassigned imp (R186). -/
def execUnassigned9C (s : State) : Result := noOperation s

/-- `9E` unassigned imp (R186). -/
def execUnassigned9E (s : State) : Result := noOperation s

/-- `9F` unassigned imp (R186). -/
def execUnassigned9F (s : State) : Result := noOperation s

/-- `A3` unassigned imp (R186). -/
def execUnassignedA3 (s : State) : Result := noOperation s

/-- `A7` unassigned imp (R186). -/
def execUnassignedA7 (s : State) : Result := noOperation s

/-- `AB` unassigned imp (R186). -/
def execUnassignedAB (s : State) : Result := noOperation s

/-- `AF` unassigned imp (R186). -/
def execUnassignedAF (s : State) : Result := noOperation s

/-- `B2` unassigned imp (R186). -/
def execUnassignedB2 (s : State) : Result := noOperation s

/-- `B3` unassigned imp (R186). -/
def execUnassignedB3 (s : State) : Result := noOperation s

/-- `B7` unassigned imp (R186). -/
def execUnassignedB7 (s : State) : Result := noOperation s

/-- `BB` unassigned imp (R186). -/
def execUnassignedBB (s : State) : Result := noOperation s

/-- `BF` unassigned imp (R186). -/
def execUnassignedBF (s : State) : Result := noOperation s

/-- `C2` unassigned imp (R186). -/
def execUnassignedC2 (s : State) : Result := noOperation s

/-- `C3` unassigned imp (R186). -/
def execUnassignedC3 (s : State) : Result := noOperation s

/-- `C7` unassigned imp (R186). -/
def execUnassignedC7 (s : State) : Result := noOperation s

/-- `CB` unassigned imp (R186). -/
def execUnassignedCB (s : State) : Result := noOperation s

/-- `CF` unassigned imp (R186). -/
def execUnassignedCF (s : State) : Result := noOperation s

/-- `D2` unassigned imp (R186). -/
def execUnassignedD2 (s : State) : Result := noOperation s

/-- `D3` unassigned imp (R186). -/
def execUnassignedD3 (s : State) : Result := noOperation s

/-- `D4` unassigned imp (R186). -/
def execUnassignedD4 (s : State) : Result := noOperation s

/-- `D7` unassigned imp (R186). -/
def execUnassignedD7 (s : State) : Result := noOperation s

/-- `DA` unassigned imp (R186). -/
def execUnassignedDA (s : State) : Result := noOperation s

/-- `DB` unassigned imp (R186). -/
def execUnassignedDB (s : State) : Result := noOperation s

/-- `DC` unassigned imp (R186). -/
def execUnassignedDC (s : State) : Result := noOperation s

/-- `DF` unassigned imp (R186). -/
def execUnassignedDF (s : State) : Result := noOperation s

/-- `E2` unassigned imp (R186). -/
def execUnassignedE2 (s : State) : Result := noOperation s

/-- `E3` unassigned imp (R186). -/
def execUnassignedE3 (s : State) : Result := noOperation s

/-- `E7` unassigned imp (R186). -/
def execUnassignedE7 (s : State) : Result := noOperation s

/-- `EB` unassigned imp (R186). -/
def execUnassignedEB (s : State) : Result := noOperation s

/-- `EF` unassigned imp (R186). -/
def execUnassignedEF (s : State) : Result := noOperation s

/-- `F2` unassigned imp (R186). -/
def execUnassignedF2 (s : State) : Result := noOperation s

/-- `F3` unassigned imp (R186). -/
def execUnassignedF3 (s : State) : Result := noOperation s

/-- `F4` unassigned imp (R186). -/
def execUnassignedF4 (s : State) : Result := noOperation s

/-- `F7` unassigned imp (R186). -/
def execUnassignedF7 (s : State) : Result := noOperation s

/-- `FA` unassigned imp (R186). -/
def execUnassignedFA (s : State) : Result := noOperation s

/-- `FB` unassigned imp (R186). -/
def execUnassignedFB (s : State) : Result := noOperation s

/-- `FC` unassigned imp (R186). -/
def execUnassignedFC (s : State) : Result := noOperation s

/-- `FF` unassigned imp (R186). -/
def execUnassignedFF (s : State) : Result := noOperation s

end Sys2Proof.Machine
end

