-- ==== Sys2Proof/Machine/Dispatch.lean ====
section
/-!
DEFINITION. `exec`: one arm per constructor of `Instr`, each one call of that instruction's meaning (49_system_loop.md
R280: dispatch by opcode).
-/

namespace Sys2Proof.Machine

-- exec runs on the state after the fetch: PC is past the instruction's last byte, and the instruction carries its
-- operand bytes (log 10). The next state is that of the instruction alone, before the sequencer's work (log 1).
def exec (i : Instr) (s : State) : Host.Outcome State Fault Refusal :=
  match i with
  | .ldaIzx d => Sys2Proof.Machine.execLdaIzx d s
  | .ldaZp d => Sys2Proof.Machine.execLdaZp d s
  | .ldaImm v => Sys2Proof.Machine.execLdaImm v s
  | .ldaAbs a => Sys2Proof.Machine.execLdaAbs a s
  | .ldaIzy d => Sys2Proof.Machine.execLdaIzy d s
  | .ldaZpx d => Sys2Proof.Machine.execLdaZpx d s
  | .ldaAby a => Sys2Proof.Machine.execLdaAby a s
  | .ldaAbx a => Sys2Proof.Machine.execLdaAbx a s
  | .ldxImm v => Sys2Proof.Machine.execLdxImm v s
  | .ldxZp d => Sys2Proof.Machine.execLdxZp d s
  | .ldxAbs a => Sys2Proof.Machine.execLdxAbs a s
  | .ldxZpy d => Sys2Proof.Machine.execLdxZpy d s
  | .ldxAby a => Sys2Proof.Machine.execLdxAby a s
  | .ldyImm v => Sys2Proof.Machine.execLdyImm v s
  | .ldyZp d => Sys2Proof.Machine.execLdyZp d s
  | .ldyAbs a => Sys2Proof.Machine.execLdyAbs a s
  | .ldyZpx d => Sys2Proof.Machine.execLdyZpx d s
  | .ldyAbx a => Sys2Proof.Machine.execLdyAbx a s
  | .staIzx d => Sys2Proof.Machine.execStaIzx d s
  | .staZp d => Sys2Proof.Machine.execStaZp d s
  | .staAbs a => Sys2Proof.Machine.execStaAbs a s
  | .staIzy d => Sys2Proof.Machine.execStaIzy d s
  | .staZpx d => Sys2Proof.Machine.execStaZpx d s
  | .staAby a => Sys2Proof.Machine.execStaAby a s
  | .staAbx a => Sys2Proof.Machine.execStaAbx a s
  | .stxZp d => Sys2Proof.Machine.execStxZp d s
  | .stxAbs a => Sys2Proof.Machine.execStxAbs a s
  | .stxZpy d => Sys2Proof.Machine.execStxZpy d s
  | .styZp d => Sys2Proof.Machine.execStyZp d s
  | .styAbs a => Sys2Proof.Machine.execStyAbs a s
  | .styZpx d => Sys2Proof.Machine.execStyZpx d s
  | .tax => Sys2Proof.Machine.execTax s
  | .tay => Sys2Proof.Machine.execTay s
  | .txa => Sys2Proof.Machine.execTxa s
  | .tya => Sys2Proof.Machine.execTya s
  | .tsx => Sys2Proof.Machine.execTsx s
  | .txs => Sys2Proof.Machine.execTxs s
  | .adcIzx d => Sys2Proof.Machine.execAdcIzx d s
  | .adcZp d => Sys2Proof.Machine.execAdcZp d s
  | .adcImm v => Sys2Proof.Machine.execAdcImm v s
  | .adcAbs a => Sys2Proof.Machine.execAdcAbs a s
  | .adcIzy d => Sys2Proof.Machine.execAdcIzy d s
  | .adcZpx d => Sys2Proof.Machine.execAdcZpx d s
  | .adcAby a => Sys2Proof.Machine.execAdcAby a s
  | .adcAbx a => Sys2Proof.Machine.execAdcAbx a s
  | .sbcIzx d => Sys2Proof.Machine.execSbcIzx d s
  | .sbcZp d => Sys2Proof.Machine.execSbcZp d s
  | .sbcImm v => Sys2Proof.Machine.execSbcImm v s
  | .sbcAbs a => Sys2Proof.Machine.execSbcAbs a s
  | .sbcIzy d => Sys2Proof.Machine.execSbcIzy d s
  | .sbcZpx d => Sys2Proof.Machine.execSbcZpx d s
  | .sbcAby a => Sys2Proof.Machine.execSbcAby a s
  | .sbcAbx a => Sys2Proof.Machine.execSbcAbx a s
  | .andIzx d => Sys2Proof.Machine.execAndIzx d s
  | .andZp d => Sys2Proof.Machine.execAndZp d s
  | .andImm v => Sys2Proof.Machine.execAndImm v s
  | .andAbs a => Sys2Proof.Machine.execAndAbs a s
  | .andIzy d => Sys2Proof.Machine.execAndIzy d s
  | .andZpx d => Sys2Proof.Machine.execAndZpx d s
  | .andAby a => Sys2Proof.Machine.execAndAby a s
  | .andAbx a => Sys2Proof.Machine.execAndAbx a s
  | .oraIzx d => Sys2Proof.Machine.execOraIzx d s
  | .oraZp d => Sys2Proof.Machine.execOraZp d s
  | .oraImm v => Sys2Proof.Machine.execOraImm v s
  | .oraAbs a => Sys2Proof.Machine.execOraAbs a s
  | .oraIzy d => Sys2Proof.Machine.execOraIzy d s
  | .oraZpx d => Sys2Proof.Machine.execOraZpx d s
  | .oraAby a => Sys2Proof.Machine.execOraAby a s
  | .oraAbx a => Sys2Proof.Machine.execOraAbx a s
  | .eorIzx d => Sys2Proof.Machine.execEorIzx d s
  | .eorZp d => Sys2Proof.Machine.execEorZp d s
  | .eorImm v => Sys2Proof.Machine.execEorImm v s
  | .eorAbs a => Sys2Proof.Machine.execEorAbs a s
  | .eorIzy d => Sys2Proof.Machine.execEorIzy d s
  | .eorZpx d => Sys2Proof.Machine.execEorZpx d s
  | .eorAby a => Sys2Proof.Machine.execEorAby a s
  | .eorAbx a => Sys2Proof.Machine.execEorAbx a s
  | .cmpIzx d => Sys2Proof.Machine.execCmpIzx d s
  | .cmpZp d => Sys2Proof.Machine.execCmpZp d s
  | .cmpImm v => Sys2Proof.Machine.execCmpImm v s
  | .cmpAbs a => Sys2Proof.Machine.execCmpAbs a s
  | .cmpIzy d => Sys2Proof.Machine.execCmpIzy d s
  | .cmpZpx d => Sys2Proof.Machine.execCmpZpx d s
  | .cmpAby a => Sys2Proof.Machine.execCmpAby a s
  | .cmpAbx a => Sys2Proof.Machine.execCmpAbx a s
  | .cpxImm v => Sys2Proof.Machine.execCpxImm v s
  | .cpxZp d => Sys2Proof.Machine.execCpxZp d s
  | .cpxAbs a => Sys2Proof.Machine.execCpxAbs a s
  | .cpyImm v => Sys2Proof.Machine.execCpyImm v s
  | .cpyZp d => Sys2Proof.Machine.execCpyZp d s
  | .cpyAbs a => Sys2Proof.Machine.execCpyAbs a s
  | .bitZp d => Sys2Proof.Machine.execBitZp d s
  | .bitAbs a => Sys2Proof.Machine.execBitAbs a s
  | .incZp d => Sys2Proof.Machine.execIncZp d s
  | .incAbs a => Sys2Proof.Machine.execIncAbs a s
  | .incZpx d => Sys2Proof.Machine.execIncZpx d s
  | .incAbx a => Sys2Proof.Machine.execIncAbx a s
  | .decZp d => Sys2Proof.Machine.execDecZp d s
  | .decAbs a => Sys2Proof.Machine.execDecAbs a s
  | .decZpx d => Sys2Proof.Machine.execDecZpx d s
  | .decAbx a => Sys2Proof.Machine.execDecAbx a s
  | .inx => Sys2Proof.Machine.execInx s
  | .iny => Sys2Proof.Machine.execIny s
  | .dex => Sys2Proof.Machine.execDex s
  | .dey => Sys2Proof.Machine.execDey s
  | .aslZp d => Sys2Proof.Machine.execAslZp d s
  | .aslAcc => Sys2Proof.Machine.execAslAcc s
  | .aslAbs a => Sys2Proof.Machine.execAslAbs a s
  | .aslZpx d => Sys2Proof.Machine.execAslZpx d s
  | .aslAbx a => Sys2Proof.Machine.execAslAbx a s
  | .lsrZp d => Sys2Proof.Machine.execLsrZp d s
  | .lsrAcc => Sys2Proof.Machine.execLsrAcc s
  | .lsrAbs a => Sys2Proof.Machine.execLsrAbs a s
  | .lsrZpx d => Sys2Proof.Machine.execLsrZpx d s
  | .lsrAbx a => Sys2Proof.Machine.execLsrAbx a s
  | .rolZp d => Sys2Proof.Machine.execRolZp d s
  | .rolAcc => Sys2Proof.Machine.execRolAcc s
  | .rolAbs a => Sys2Proof.Machine.execRolAbs a s
  | .rolZpx d => Sys2Proof.Machine.execRolZpx d s
  | .rolAbx a => Sys2Proof.Machine.execRolAbx a s
  | .rorZp d => Sys2Proof.Machine.execRorZp d s
  | .rorAcc => Sys2Proof.Machine.execRorAcc s
  | .rorAbs a => Sys2Proof.Machine.execRorAbs a s
  | .rorZpx d => Sys2Proof.Machine.execRorZpx d s
  | .rorAbx a => Sys2Proof.Machine.execRorAbx a s
  | .bpl off => Sys2Proof.Machine.execBpl off s
  | .bmi off => Sys2Proof.Machine.execBmi off s
  | .bvc off => Sys2Proof.Machine.execBvc off s
  | .bvs off => Sys2Proof.Machine.execBvs off s
  | .bcc off => Sys2Proof.Machine.execBcc off s
  | .bcs off => Sys2Proof.Machine.execBcs off s
  | .bne off => Sys2Proof.Machine.execBne off s
  | .beq off => Sys2Proof.Machine.execBeq off s
  | .jmpAbs a => Sys2Proof.Machine.execJmpAbs a s
  | .jmpInd a => Sys2Proof.Machine.execJmpInd a s
  | .jsr a => Sys2Proof.Machine.execJsr a s
  | .rts => Sys2Proof.Machine.execRts s
  | .pha => Sys2Proof.Machine.execPha s
  | .php => Sys2Proof.Machine.execPhp s
  | .pla => Sys2Proof.Machine.execPla s
  | .plp => Sys2Proof.Machine.execPlp s
  | .clc => Sys2Proof.Machine.execClc s
  | .sec => Sys2Proof.Machine.execSec s
  | .cli => Sys2Proof.Machine.execCli s
  | .sei => Sys2Proof.Machine.execSei s
  | .cld => Sys2Proof.Machine.execCld s
  | .sed => Sys2Proof.Machine.execSed s
  | .clv => Sys2Proof.Machine.execClv s
  | .nop => Sys2Proof.Machine.execNop s
  | .brk => Sys2Proof.Machine.execBrk s
  | .rti => Sys2Proof.Machine.execRti s
  | .unassigned02 => Sys2Proof.Machine.execUnassigned02 s
  | .unassigned03 => Sys2Proof.Machine.execUnassigned03 s
  | .unassigned04 => Sys2Proof.Machine.execUnassigned04 s
  | .unassigned07 => Sys2Proof.Machine.execUnassigned07 s
  | .unassigned0B => Sys2Proof.Machine.execUnassigned0B s
  | .unassigned0C => Sys2Proof.Machine.execUnassigned0C s
  | .unassigned0F => Sys2Proof.Machine.execUnassigned0F s
  | .unassigned12 => Sys2Proof.Machine.execUnassigned12 s
  | .unassigned13 => Sys2Proof.Machine.execUnassigned13 s
  | .unassigned14 => Sys2Proof.Machine.execUnassigned14 s
  | .unassigned17 => Sys2Proof.Machine.execUnassigned17 s
  | .unassigned1A => Sys2Proof.Machine.execUnassigned1A s
  | .unassigned1B => Sys2Proof.Machine.execUnassigned1B s
  | .unassigned1C => Sys2Proof.Machine.execUnassigned1C s
  | .unassigned1F => Sys2Proof.Machine.execUnassigned1F s
  | .unassigned22 => Sys2Proof.Machine.execUnassigned22 s
  | .unassigned23 => Sys2Proof.Machine.execUnassigned23 s
  | .unassigned27 => Sys2Proof.Machine.execUnassigned27 s
  | .unassigned2B => Sys2Proof.Machine.execUnassigned2B s
  | .unassigned2F => Sys2Proof.Machine.execUnassigned2F s
  | .unassigned32 => Sys2Proof.Machine.execUnassigned32 s
  | .unassigned33 => Sys2Proof.Machine.execUnassigned33 s
  | .unassigned34 => Sys2Proof.Machine.execUnassigned34 s
  | .unassigned37 => Sys2Proof.Machine.execUnassigned37 s
  | .unassigned3A => Sys2Proof.Machine.execUnassigned3A s
  | .unassigned3B => Sys2Proof.Machine.execUnassigned3B s
  | .unassigned3C => Sys2Proof.Machine.execUnassigned3C s
  | .unassigned3F => Sys2Proof.Machine.execUnassigned3F s
  | .unassigned42 => Sys2Proof.Machine.execUnassigned42 s
  | .unassigned43 => Sys2Proof.Machine.execUnassigned43 s
  | .unassigned44 => Sys2Proof.Machine.execUnassigned44 s
  | .unassigned47 => Sys2Proof.Machine.execUnassigned47 s
  | .unassigned4B => Sys2Proof.Machine.execUnassigned4B s
  | .unassigned4F => Sys2Proof.Machine.execUnassigned4F s
  | .unassigned52 => Sys2Proof.Machine.execUnassigned52 s
  | .unassigned53 => Sys2Proof.Machine.execUnassigned53 s
  | .unassigned54 => Sys2Proof.Machine.execUnassigned54 s
  | .unassigned57 => Sys2Proof.Machine.execUnassigned57 s
  | .unassigned5A => Sys2Proof.Machine.execUnassigned5A s
  | .unassigned5B => Sys2Proof.Machine.execUnassigned5B s
  | .unassigned5C => Sys2Proof.Machine.execUnassigned5C s
  | .unassigned5F => Sys2Proof.Machine.execUnassigned5F s
  | .unassigned62 => Sys2Proof.Machine.execUnassigned62 s
  | .unassigned63 => Sys2Proof.Machine.execUnassigned63 s
  | .unassigned64 => Sys2Proof.Machine.execUnassigned64 s
  | .unassigned67 => Sys2Proof.Machine.execUnassigned67 s
  | .unassigned6B => Sys2Proof.Machine.execUnassigned6B s
  | .unassigned6F => Sys2Proof.Machine.execUnassigned6F s
  | .unassigned72 => Sys2Proof.Machine.execUnassigned72 s
  | .unassigned73 => Sys2Proof.Machine.execUnassigned73 s
  | .unassigned74 => Sys2Proof.Machine.execUnassigned74 s
  | .unassigned77 => Sys2Proof.Machine.execUnassigned77 s
  | .unassigned7A => Sys2Proof.Machine.execUnassigned7A s
  | .unassigned7B => Sys2Proof.Machine.execUnassigned7B s
  | .unassigned7C => Sys2Proof.Machine.execUnassigned7C s
  | .unassigned7F => Sys2Proof.Machine.execUnassigned7F s
  | .unassigned80 => Sys2Proof.Machine.execUnassigned80 s
  | .unassigned82 => Sys2Proof.Machine.execUnassigned82 s
  | .unassigned83 => Sys2Proof.Machine.execUnassigned83 s
  | .unassigned87 => Sys2Proof.Machine.execUnassigned87 s
  | .unassigned89 => Sys2Proof.Machine.execUnassigned89 s
  | .unassigned8B => Sys2Proof.Machine.execUnassigned8B s
  | .unassigned8F => Sys2Proof.Machine.execUnassigned8F s
  | .unassigned92 => Sys2Proof.Machine.execUnassigned92 s
  | .unassigned93 => Sys2Proof.Machine.execUnassigned93 s
  | .unassigned97 => Sys2Proof.Machine.execUnassigned97 s
  | .unassigned9B => Sys2Proof.Machine.execUnassigned9B s
  | .unassigned9C => Sys2Proof.Machine.execUnassigned9C s
  | .unassigned9E => Sys2Proof.Machine.execUnassigned9E s
  | .unassigned9F => Sys2Proof.Machine.execUnassigned9F s
  | .unassignedA3 => Sys2Proof.Machine.execUnassignedA3 s
  | .unassignedA7 => Sys2Proof.Machine.execUnassignedA7 s
  | .unassignedAB => Sys2Proof.Machine.execUnassignedAB s
  | .unassignedAF => Sys2Proof.Machine.execUnassignedAF s
  | .unassignedB2 => Sys2Proof.Machine.execUnassignedB2 s
  | .unassignedB3 => Sys2Proof.Machine.execUnassignedB3 s
  | .unassignedB7 => Sys2Proof.Machine.execUnassignedB7 s
  | .unassignedBB => Sys2Proof.Machine.execUnassignedBB s
  | .unassignedBF => Sys2Proof.Machine.execUnassignedBF s
  | .unassignedC2 => Sys2Proof.Machine.execUnassignedC2 s
  | .unassignedC3 => Sys2Proof.Machine.execUnassignedC3 s
  | .unassignedC7 => Sys2Proof.Machine.execUnassignedC7 s
  | .unassignedCB => Sys2Proof.Machine.execUnassignedCB s
  | .unassignedCF => Sys2Proof.Machine.execUnassignedCF s
  | .unassignedD2 => Sys2Proof.Machine.execUnassignedD2 s
  | .unassignedD3 => Sys2Proof.Machine.execUnassignedD3 s
  | .unassignedD4 => Sys2Proof.Machine.execUnassignedD4 s
  | .unassignedD7 => Sys2Proof.Machine.execUnassignedD7 s
  | .unassignedDA => Sys2Proof.Machine.execUnassignedDA s
  | .unassignedDB => Sys2Proof.Machine.execUnassignedDB s
  | .unassignedDC => Sys2Proof.Machine.execUnassignedDC s
  | .unassignedDF => Sys2Proof.Machine.execUnassignedDF s
  | .unassignedE2 => Sys2Proof.Machine.execUnassignedE2 s
  | .unassignedE3 => Sys2Proof.Machine.execUnassignedE3 s
  | .unassignedE7 => Sys2Proof.Machine.execUnassignedE7 s
  | .unassignedEB => Sys2Proof.Machine.execUnassignedEB s
  | .unassignedEF => Sys2Proof.Machine.execUnassignedEF s
  | .unassignedF2 => Sys2Proof.Machine.execUnassignedF2 s
  | .unassignedF3 => Sys2Proof.Machine.execUnassignedF3 s
  | .unassignedF4 => Sys2Proof.Machine.execUnassignedF4 s
  | .unassignedF7 => Sys2Proof.Machine.execUnassignedF7 s
  | .unassignedFA => Sys2Proof.Machine.execUnassignedFA s
  | .unassignedFB => Sys2Proof.Machine.execUnassignedFB s
  | .unassignedFC => Sys2Proof.Machine.execUnassignedFC s
  | .unassignedFF => Sys2Proof.Machine.execUnassignedFF s

end Sys2Proof.Machine
end

