-- ==== Sys2Proof/Machine/Render.lean ====
section
/-!
DEFINITION. The frame renderer (46_ppu_render.md R220 to R241): what each pixel of a frame shows, and the frame buffer made
of them. Every pass writes a pixel from data that no pass writes, so a pixel is computed on its own: the background first,
then the sprites from 63 down to 0 over it (log 15).
-/

namespace Sys2Proof.Machine

/-- The frame is 256 pixels wide (R26). -/
def frameWidth : Nat := 256

/-- The frame is 240 pixels high (R26). -/
def frameHeight : Nat := 240

/-- A bit as 0 or 1. -/
def bitNat (b : Byte) (k : Nat) : Nat := (b.getLsbD k).toNat

/-- `chr[k]` as the renderer reads it (R226, R232). -/
def chrByte (s : State) (k : Nat) : Byte := s.cart.chr.read k

/-- The 2-bit colour index of plane bytes at a bit (R226, R233): plane 1 is the high bit. -/
def planeIndex (p0 p1 : Byte) (bit : Nat) : Nat := 2 * bitNat p1 bit + bitNat p0 bit

/-! ## Background pass -/

/-- The logical nametable page of a scrolled pixel (R223): scroll overflow toggles the base selection. -/
def bgPage (s : State) (sx sy : Nat) : Nat :=
  let ntx := (bitNat s.ppu.control 0 + sx / 256) % 2
  let nty := (bitNat s.ppu.control 1 + sy / 240) % 2
  2 * nty + ntx

/-- The video address of offset `off` of a nametable page (R223, R224). -/
def pageAddr (page off : Nat) : VideoAddr := BitVec.ofNat 14 (0x2000 + page * 0x400 + off)

/-- The tile index at tile column `tx`, row `ty` of a page (R224). -/
def bgTile (s : State) (page tx ty : Nat) : Byte := ppuRead s (pageAddr page (ty * 32 + tx))

/-- The palette quadrant of that tile (R225). -/
def bgPalette (s : State) (page tx ty : Nat) : Nat :=
  let attr := ppuRead s (pageAddr page (0x3C0 + ty / 4 * 8 + tx / 4))
  let shift := ty / 2 % 2 * 4 + tx / 2 % 2 * 2
  attr.toNat / 2 ^ shift % 4

/-- The pattern-table base that `control[4]` selects (R226). -/
def bgTable (s : State) : Nat := if s.ppu.control.getLsbD 4 then 0x1000 else 0x0000

/-- The colour index of pixel column `px`, row `py` of a page (R226). -/
def bgIndex (s : State) (page px py : Nat) : Nat :=
  let at0 := bgTable s + (bgTile s page (px / 8) (py / 8)).toNat * 16 + py % 8
  planeIndex (chrByte s at0) (chrByte s (at0 + 8)) (7 - px % 8)

/-- The palette byte of a background pixel (R227): index 0 is the universal background colour. -/
def bgPixel (s : State) (x y : Nat) : Byte :=
  let sx := x + s.ppu.scrollX.toNat
  let sy := y + s.ppu.scrollY.toNat
  let page := bgPage s sx sy
  let ci := bgIndex s page (sx % 256) (sy % 240)
  if ci = 0 then s.ppu.paletteRAM.read 0
  else s.ppu.paletteRAM.read (palIndex (0x3F00 + bgPalette s page (sx % 256 / 8) (sy % 240 / 8) * 4 + ci))

/-- The background pass at a pixel (R221, R228): with the mask gate closed, the universal background colour. -/
def bgPass (s : State) (x y : Nat) : Byte :=
  if s.params.maskGatesRender && !s.ppu.mask.getLsbD 3 then s.ppu.paletteRAM.read 0 else bgPixel s x y

/-! ## Sprite pass -/

/-- Byte `k` of sprite `i`: 0 Y, 1 tile index, 2 attributes, 3 X (R25, R229). -/
def spriteByte (s : State) (i k : Nat) : Byte := s.ppu.oam.read (4 * i + k)

/-- The height of every sprite (R231). -/
def spriteHeight (s : State) : Nat := if s.ppu.control.getLsbD 5 then 16 else 8

/-- The first screen row of sprite `i` (R231, R240). -/
def spriteTop (s : State) (i : Nat) : Nat := (spriteByte s i 0).toNat + s.params.spriteYOffset.val

/-- Where the planes of pattern row `rr` of sprite `i` start in `chr` (R232). -/
def spritePatternAt (s : State) (i rr : Nat) : Nat :=
  let tile := spriteByte s i 1
  if spriteHeight s = 8 then
    (if s.ppu.control.getLsbD 3 then 0x1000 else 0x0000) + tile.toNat * 16 + rr % 8
  else
    (if tile.getLsbD 0 then 0x1000 else 0x0000) + ((tile &&& 0xFE).toNat + rr / 8) % 256 * 16 + rr % 8

/-- The colour index of row `r`, column `c` of sprite `i`, flips applied (R231, R233). -/
def spriteIndex (s : State) (i r c : Nat) : Nat :=
  let attr := spriteByte s i 2
  let rr := if attr.getLsbD 7 then spriteHeight s - 1 - r else r
  let cc := if attr.getLsbD 6 then 7 - c else c
  let at0 := spritePatternAt s i rr
  planeIndex (chrByte s at0) (chrByte s (at0 + 8)) (7 - cc)

/-- The palette byte of a sprite pixel with colour index `ci` (R235). -/
def spriteColour (s : State) (i ci : Nat) : Byte :=
  s.ppu.paletteRAM.read (palIndex (0x3F10 + (spriteByte s i 2).toNat % 4 * 4 + ci))

/-- What row `r`, column `c` of sprite `i` writes (R234): nothing where it is transparent or behind the background. -/
def spriteDraws (s : State) (i r c : Nat) : Option Byte :=
  if spriteIndex s i r c = 0 || (spriteByte s i 2).getLsbD 5 then none
  else some (spriteColour s i (spriteIndex s i r c))

/-- What sprite `i` writes at a pixel of the frame (R231, R233). -/
def spritePixel (s : State) (i x y : Nat) : Option Byte :=
  let top := spriteTop s i
  let left := (spriteByte s i 3).toNat
  if top ≤ y ∧ y < top + spriteHeight s ∧ left ≤ x ∧ x < left + 8 then spriteDraws s i (y - top) (x - left) else none

/-- Sprite indices in drawing order: 63 down to 0 (R229). -/
def spriteOrder : List Nat := (List.range 64).reverse

/-- The sprite pass at a pixel over the background byte `bg` (R221, R229): a later sprite overwrites an earlier one. -/
def spritePass (s : State) (x y : Nat) (bg : Byte) : Byte :=
  if s.params.maskGatesRender && !s.ppu.mask.getLsbD 4 then bg
  else spriteOrder.foldl (fun c i => (spritePixel s i x y).getD c) bg

/-! ## The frame -/

/-- The palette byte that a rendered pixel shows (R220). -/
def renderedByte (s : State) (x y : Nat) : Byte := spritePass s x y (bgPass s x y)

/-- `Colour(c)` before the host's palette: the 6-bit index (R236; log 5). -/
def colourIndex (c : Byte) : Pixel := c.setWidth 6

/-- `renderFrame()` (R220): it writes every pixel of `frameBuffer` and nothing else. -/
def renderFrame (s : State) : State :=
  s.setPpu { s.ppu with
    frameBuffer := (List.range (frameWidth * frameHeight)).map fun k =>
      colourIndex (renderedByte s (k % frameWidth) (k / frameWidth)) }

/-- `frameBuffer[y*256 + x]` as an index: a free value before the first render (R26, R322; log 6). -/
def shownPixel (s : State) (x y : Nat) : Pixel :=
  (s.ppu.frameBuffer[y * frameWidth + x]?).getD (Config.powerOnPixel (y * frameWidth + x))

/-- The packed RGBA value that the host reads at a pixel (R26, R236). -/
def shownColour (s : State) (x y : Nat) : Nat := Config.systemPalette (shownPixel s x y)

end Sys2Proof.Machine
end

