-- ==== Sys2Proof/Machine/Sequencer.lean ====
section
/-!
DEFINITION. Fetching an instruction, the CPU's `step()`, and the frame sequencer (49_system_loop.md R279 to R284).
-/

namespace Sys2Proof.Machine

/-! ## Fetch -/

/-- Fetch `n` bytes at `PC` in address order, advancing `PC` past each (30_encoding.md R70, R84). -/
def fetchBytes : Nat → State → List Byte × State
  | 0, s => ([], s)
  | n + 1, s =>
    let b := fetchByte s
    let rest := fetchBytes n b.2
    (b.1 :: rest.1, rest.2)

/-- Fetch one instruction: the opcode byte, then as many bytes as its mode takes (R72). -/
def fetchInstr (s : State) : List Byte × State :=
  let op := fetchByte s
  let rest := fetchBytes (opcodeLength op.1 - 1) op.2
  (op.1 :: rest.1, rest.2)

/-- The instruction of a fetched byte list. -/
def instrOfBytes (bs : List Byte) : Instr := decodeBytes (bs.getD 0 0) (bs.getD 1 0) (bs.getD 2 0)

/-! ## The CPU step -/

/-- Whether this step services the IRQ, when no NMI is pending (R292). -/
def irqTaken (s : State) : Bool := s.irqPending && !s.flag .I

/-- `step()` of the CPU (R280): a pending NMI, else an unmasked IRQ, else one instruction. `cycles` holds what it
returns. -/
def cpuStep (s : State) : Result :=
  if s.nmiPending then complete 7 (raiseInterrupt nmiVector (s.setNmi false))
  else if irqTaken s then complete 7 (raiseInterrupt irqVector (s.setIrq false))
  else
    let f := fetchInstr s
    exec (instrOfBytes f.1) f.2

/-! ## The frame -/

/-- `triggerNMI()` (R282). -/
def triggerNmi (s : State) : State := s.setNmi true

/-- What follows the last CPU step of a frame (R281): render, begin VBlank, request the NMI if `control[7]` is set. -/
def endFrame (s : State) : State :=
  let s1 := beginVBlank (renderFrame s)
  if s1.ppu.control.getLsbD 7 then triggerNmi s1 else s1

/-- The loop of R281: CPU steps while `acc < CYCLES_PER_FRAME`. Where every base cycle count is positive (log 4), every step
adds to `acc`, so `CYCLES_PER_FRAME` rounds are fuel enough. -/
def frameLoop : Nat → Nat → State → Result
  | 0, _, s => .next s
  | fuel + 1, acc, s =>
    if acc < s.params.cyclesPerFrame then
      match cpuStep s with
      | .next t => frameLoop fuel (acc + t.cycles) t
      | .fault r => .fault r
      | .refused r => .refused r
    else .next s

/-- `runOneFrame()` (R281, R284), as one operation of the host. -/
def runOneFrame (s : State) : Result :=
  if s.cartridgeAttached then
    match frameLoop s.params.cyclesPerFrame 0 (clearVBlank s) with
    | .next t => .next (endFrame t)
    | .fault r => .fault r
    | .refused r => .refused r
  else .next s

/-! ## The same, one CPU step at a time (log 1) -/

/-- Before a CPU step: if no frame is running, the host's next tick starts one (R281). -/
def startFrame (s : State) : State :=
  if s.seq.running then s else (clearVBlank s).setSeq { running := true, acc := 0 }

/-- After a CPU step: add its cycles; when the budget is reached, end the frame (R281). -/
def closeStep (s : State) : State :=
  if s.seq.acc + s.cycles < s.params.cyclesPerFrame then
    s.setSeq { running := true, acc := s.seq.acc + s.cycles }
  else endFrame (s.setSeq .idle)

/-- One step of the whole machine: one CPU step with the sequencer's work around it. Without a cartridge nothing
changes (R284). -/
def machineStep (s : State) : Result :=
  if s.cartridgeAttached then
    match cpuStep (startFrame s) with
    | .next t => .next (closeStep t)
    | .fault r => .fault r
    | .refused r => .refused r
  else .next s

/-! ## Placing an instruction where the next step fetches (log 8) -/

/-- Whether the three bytes at an address are all in memory. -/
def holdsInstr (addr : Word) : Bool := isMemory addr && isMemory (addr + 1) && isMemory (addr + 2)

/-- Store three bytes at `PC`. -/
def placeAtPc (s : State) (b0 b1 b2 : Byte) : State :=
  place (place (place s s.pc b0) (s.pc + 1) b1) (s.pc + 2) b2

/-- The state whose next step fetches an instruction: a cartridge is attached, no interrupt is serviced first, and
`PC` is in memory. Each change is made only where the fetch needs it. -/
def readyToFetch (s : State) : State :=
  let s1 := s.setNmi false
  let s2 := if irqTaken s1 then s1.setIrq false else s1
  let s3 := if s2.cartridgeAttached then s2
    else (s2.setAttached true).setCart (if s2.cart.prgBanks = 0 then blankCartridge else s2.cart)
  if holdsInstr s3.pc then s3 else s3.setPc 0x0000

/-- An instruction's bytes, the lowest first, stored where the next step fetches. -/
def placeInstr (s : State) (nbits w : Nat) : State :=
  let bs := tableWordBytes nbits w
  placeAtPc (readyToFetch s) (bs.getD 0 0) (bs.getD 1 0) (bs.getD 2 0)

end Sys2Proof.Machine
end

