-- ==== Sys2Proof/Machine/Step.lean ====
section
/-!
DEFINITION. The machine's step, and how the host places an instruction for it.
-/

namespace Sys2Proof.Machine

/-- One step of the machine: one CPU step (R280), with the frame sequencer's work before the first and after the last
CPU step of a frame (R281; log 1). -/
def step (s : State) : Host.Outcome State Fault Refusal := machineStep s

/-- `s` with an instruction stored where `step` fetches its next one (log 8). -/
def State.withFetchWord (s : State) (nbits w : Nat) : State := placeInstr s nbits w

end Sys2Proof.Machine
end

