-- ==== Sys2Proof/Machine/Loader.lean ====
section
/-!
DEFINITION. The ROM image loader (48_cartridge_mapper.md R263 to R270) and the reset that follows a successful load
(70_reset_and_hazards.md R320).
-/

namespace Sys2Proof.Machine

/-- Why a load fails (R264, R266, R267). -/
inductive LoadError where
  | invalidHeader
  | unsupportedMapper
  | truncatedFile
deriving DecidableEq, Repr

/-- The metadata of a successful load (R269): not machine state. -/
structure LoadInfo where
  programSize : Nat
  characterSize : Nat
  mapperId : Byte
deriving DecidableEq, Repr

/-- Byte `k` of an image. -/
def imageByte (img : List Byte) (k : Nat) : Byte := img.getD k 0

/-- The four signature bytes (R263). -/
def imageMagic : List Byte := [0x4E, 0x45, 0x53, 0x1A]

/-- Program-bank count (R265). -/
def imagePrgBanks (img : List Byte) : Nat := (imageByte img 4).toNat

/-- Character-bank count (R265). -/
def imageChrBanks (img : List Byte) : Nat := (imageByte img 5).toNat

/-- Mapper number (R265): its low nibble from byte 6, its high nibble from byte 7. -/
def imageMapper (img : List Byte) : Byte := (imageByte img 7 &&& 0xF0) ||| (imageByte img 6 >>> 4)

/-- Mirroring (R265): the four-screen bit wins; then 1 is HORIZONTAL, 0 VERTICAL. -/
def imageMirroring (img : List Byte) : Mirroring :=
  if (imageByte img 6).getLsbD 3 then .fourScreen
  else if (imageByte img 6).getLsbD 0 then .horizontal
  else .vertical

/-- Where the program data starts (R267): after the header and the trainer, if there is one. -/
def imageOffset (img : List Byte) : Nat := 16 + (if (imageByte img 6).getLsbD 2 then 512 else 0)

/-- The length that the header declares (R267). -/
def imageNeed (img : List Byte) : Nat := imageOffset img + imagePrgBanks img * 16384 + imageChrBanks img * 8192

/-- The cartridge that an accepted image builds (R268). -/
def imageCartridge (img : List Byte) : Cartridge where
  prgBanks := imagePrgBanks img
  prgROM := Memory.ofBytes ((img.drop (imageOffset img)).take (imagePrgBanks img * 16384)) 0
  prgRAM := []
  chr :=
    if imageChrBanks img = 0 then []
    else Memory.ofBytes ((img.drop (imageOffset img + imagePrgBanks img * 16384)).take 8192) 0
  hasCharacterRAM := decide (imageChrBanks img = 0)
  mapperId := imageMapper img
  mirroring := imageMirroring img

/-- `load(img)` (R264 to R268), the checks in their order. -/
def loadImage (img : List Byte) : Except LoadError Cartridge :=
  if img.length < 16 ∨ img.take 4 ≠ imageMagic then .error .invalidHeader
  else if imageMapper img ≠ 0 then .error .unsupportedMapper
  else if imagePrgBanks img = 0 then .error .invalidHeader
  else if img.length < imageNeed img then .error .truncatedFile
  else .ok (imageCartridge img)

/-- The metadata of an accepted image (R269). The character size is 8192 for one bank; the spec gives no exact value
for the other counts, so there it is a free value (log 16). -/
def imageInfo (img : List Byte) : LoadInfo where
  programSize := imagePrgBanks img * 16384
  characterSize := if imageChrBanks img = 1 then 8192 else Config.reportedCharacterSize (imageChrBanks img)
  mapperId := imageMapper img

/-! ## Reset (R320) -/

/-- `PPU.attachCartridge(cart)` (R32, R208), the cartridge being in place. -/
def attachPpu (s : State) : State :=
  s.setPpu { s.ppu with nameTableRAM := [], paletteRAM := [], oam := [], addressLatch := false }

/-- `PPU.reset()` (R32): registers; `frameBuffer` is not touched. -/
def resetPpu (s : State) : State :=
  s.setPpu { s.ppu with
    control := 0, mask := 0, status := 0, oamAddress := 0, scrollX := 0, scrollY := 0, vramAddress := 0, readBuffer := 0 }

/-- `CPU.reset()` (R30, R31): RAM and latches clear, registers from the parameters, `PC` from the reset vector. -/
def resetCpu (s : State) : State :=
  let s1 := { s with
    a := s.params.resetA, x := s.params.resetX, y := s.params.resetY, sp := s.params.resetSP, p := s.params.resetP,
    nmiPending := false, irqPending := false, ram := [] }
  let v := memRead16 s1 resetVector
  v.2.setPc v.1

/-- The reset sequence that ends a successful load (R320). -/
def attachAndReset (c : Cartridge) (s : State) : State :=
  let s1 := (s.setCart c).setAttached true
  let s2 := s1.setJoypad s1.joypad.afterReset
  resetCpu (resetPpu (attachPpu s2))

end Sys2Proof.Machine
end

