-- ==== Sys2Proof/Machine/HostPort.lean ====
section
/-!
DEFINITION. The host's interactions (49_system_loop.md R283, 60_exceptions.md R293). The tick is `runOneFrame`, the frame
is read by `shownColour`.
-/

namespace Sys2Proof.Machine

/-- What the host, or the environment named by `IRQ_SOURCE`, does to the core. -/
inductive HostEvent where
  /-- `setButton(k, pressed)` (R251). -/
  | button (k : Fin 8) (pressed : Bool)
  /-- "load ROM from bytes" (R269). -/
  | load (img : List Byte)
  /-- A member of `IRQ_SOURCE` sets `irqPending` (R293). -/
  | irq
deriving DecidableEq, Repr

/-- What the host gets back (R283). -/
inductive HostAnswer where
  | nothing
  | loaded (info : LoadInfo)
  | failed (e : LoadError)
deriving DecidableEq, Repr

/-- `setButton` on the machine (R251). -/
def setButton (k : Fin 8) (pressed : Bool) (s : State) : State := s.setJoypad (s.joypad.setButton k pressed)

/-- "load ROM from bytes" (R269): on failure no state changes. -/
def loadRom (img : List Byte) (s : State) : HostAnswer × State :=
  match loadImage img with
  | .ok c => (.loaded (imageInfo img), attachAndReset c s)
  | .error e => (.failed e, s)

/-- An interaction, where it may happen: buttons and loads only between two frames (R283, U28), an IRQ before any step
if `IRQ_SOURCE` is not empty (R293). `none`: not a behaviour of the machine (log 14). -/
def hostEvent (e : HostEvent) (s : State) : Option (HostAnswer × State) :=
  match e with
  | .button k pressed => if s.seq.running then none else some (.nothing, setButton k pressed s)
  | .load img => if s.seq.running then none else some (loadRom img s)
  | .irq => if s.params.irqSource then some (.nothing, s.setIrq true) else none

end Sys2Proof.Machine
end

