-- ==== Sys2Proof/WellFormed.lean ====
section
/-!
DEFINITION. Which (mnemonic, mode) pairs exist (30_encoding.md R86 and every *Encoding* line of 40 to 44). Operand widths
are in the types of `Instr`, so the pair is all there is to check.
-/

namespace Sys2Proof

/-- The modes each mnemonic has (R86). -/
def Mnemonic.modes : Mnemonic → List ModeKey
  | .lda => [.imm, .zp, .zpx, .abs, .abx, .aby, .izx, .izy]
  | .ldx => [.imm, .zp, .zpy, .abs, .aby]
  | .ldy => [.imm, .zp, .zpx, .abs, .abx]
  | .sta => [.zp, .zpx, .abs, .abx, .aby, .izx, .izy]
  | .stx => [.zp, .zpy, .abs]
  | .sty => [.zp, .zpx, .abs]
  | .tax => [.imp]
  | .tay => [.imp]
  | .txa => [.imp]
  | .tya => [.imp]
  | .tsx => [.imp]
  | .txs => [.imp]
  | .adc => [.imm, .zp, .zpx, .abs, .abx, .aby, .izx, .izy]
  | .sbc => [.imm, .zp, .zpx, .abs, .abx, .aby, .izx, .izy]
  | .and => [.imm, .zp, .zpx, .abs, .abx, .aby, .izx, .izy]
  | .ora => [.imm, .zp, .zpx, .abs, .abx, .aby, .izx, .izy]
  | .eor => [.imm, .zp, .zpx, .abs, .abx, .aby, .izx, .izy]
  | .cmp => [.imm, .zp, .zpx, .abs, .abx, .aby, .izx, .izy]
  | .cpx => [.imm, .zp, .abs]
  | .cpy => [.imm, .zp, .abs]
  | .bit => [.zp, .abs]
  | .inc => [.zp, .zpx, .abs, .abx]
  | .dec => [.zp, .zpx, .abs, .abx]
  | .inx => [.imp]
  | .iny => [.imp]
  | .dex => [.imp]
  | .dey => [.imp]
  | .asl => [.acc, .zp, .zpx, .abs, .abx]
  | .lsr => [.acc, .zp, .zpx, .abs, .abx]
  | .rol => [.acc, .zp, .zpx, .abs, .abx]
  | .ror => [.acc, .zp, .zpx, .abs, .abx]
  | .bpl => [.rel]
  | .bmi => [.rel]
  | .bvc => [.rel]
  | .bvs => [.rel]
  | .bcc => [.rel]
  | .bcs => [.rel]
  | .bne => [.rel]
  | .beq => [.rel]
  | .jmp => [.abs, .ind]
  | .jsr => [.abs]
  | .rts => [.imp]
  | .pha => [.imp]
  | .php => [.imp]
  | .pla => [.imp]
  | .plp => [.imp]
  | .clc => [.imp]
  | .sec => [.imp]
  | .cli => [.imp]
  | .sei => [.imp]
  | .cld => [.imp]
  | .sed => [.imp]
  | .clv => [.imp]
  | .nop => [.imp]
  | .brk => [.imp]
  | .rti => [.imp]
  | .unassigned => [.imp]

/-- Whether a mnemonic with a mode is an instruction of the machine: R86 has such a cell. -/
def formWellFormed (f : Mnemonic × Mode) : Bool := f.1.modes.contains f.2.key

/-- An instruction is well formed when its mnemonic has its mode. Every constructor of `Instr` stands for a cell of
R86 or R87, so every term of `Instr` is (`Sys2Proof.Laws.instr_wellFormed`); the check refuses forms such as
`STA #v` that no constructor stands for. -/
def Instr.wellFormed (i : Instr) : Bool := formWellFormed i.form

end Sys2Proof
end

