-- ==== Sys2Proof/Safety.lean ====
section
/-!
DEFINITION. What counts as a safe state and a safe run, and the vocabulary of the claims: the *Encoding* lines of the
instruction rules, flag frames, the branch conditions, the writers of each register and flag, the sprite pass as the loops
of the spec.
-/

namespace Sys2Proof.Machine

/-! ## The invariant -/

/-- What every run from a reset keeps. -/
structure State.Inv (s : State) : Prop where
  /-- Canonical memories of the spec's sizes (R5, R20, R25, R28). -/
  ramForm : Memory.wf 2048 s.ram = true
  nameTableForm : Memory.wf 2048 s.ppu.nameTableRAM = true
  paletteForm : Memory.wf 32 s.ppu.paletteRAM = true
  oamForm : Memory.wf 256 s.ppu.oam = true
  prgRamForm : Memory.wf 8192 s.cart.prgRAM = true
  chrForm : Memory.wf 8192 s.cart.chr = true
  prgRomForm : Memory.wf s.cart.prgLength s.cart.prgROM = true
  /-- R206: palette bytes 16, 20, 24 and 28 are never accessed, so they stay as a load leaves them. -/
  aliasedPalette : ∀ k ∈ [16, 20, 24, 28], s.ppu.paletteRAM.read k = 0
  /-- R28: an attached cartridge has a positive number of banks and mapper 0. -/
  cartridge : s.cartridgeAttached = true → 0 < s.cart.prgBanks ∧ s.cart.mapperId = 0
  /-- R26: no frame yet, or a whole one. -/
  frame : s.ppu.frameBuffer.length = 0 ∨ s.ppu.frameBuffer.length = 61440
  /-- R24: bits 6:0 of `status` are zero. -/
  statusBits : s.ppu.status &&& 0x7F = 0
  /-- R14: Break is clear and Unused set in the register. -/
  breakClear : s.flag .B = false
  unusedSet : s.flag .U = true
  /-- R281: while a frame runs, its accumulator is below the budget; between frames it is 0. -/
  accBelow : s.seq.running = true → s.seq.acc < s.params.cyclesPerFrame
  accIdle : s.seq.running = false → s.seq.acc = 0
  /-- R330: while a frame runs the VBlank bit is clear. -/
  vblankHidden : s.seq.running = true → s.ppu.status = 0
  /-- R282: the NMI of a frame boundary is serviced by the first step of the next frame. -/
  nmiServiced : s.seq.running = true → s.nmiPending = false
  /-- R6: the budget is positive; a reset status byte has the form of R14. -/
  budget : 0 < s.params.cyclesPerFrame
  resetStatus : flagOf s.params.resetP .B = false ∧ flagOf s.params.resetP .U = true

/-- A safe outcome: the machine goes on, and the invariant holds. -/
def Safe (r : Result) : Prop := ∃ t, r = .next t ∧ t.Inv

/-! ## Vocabulary of the claims -/

/-- The status byte `p'` differs from `p` at most in the flags listed, which have the values listed. -/
def FlagsAfter (p p' : Byte) (changed : List (Flag × Bool)) : Prop :=
  ∀ f, flagOf p' f = (changed.lookup f).getD (flagOf p f)

/-- The flags that `setZN(v)` writes (R15). -/
def zn (v : Byte) : List (Flag × Bool) := [(.Z, decide (v = 0)), (.N, v.msb)]

/-- The 105 unassigned opcode values (R87). -/
def unassignedOpcodes : List Byte :=
  [0x02, 0x03, 0x04, 0x07, 0x0B, 0x0C, 0x0F, 0x12, 0x13, 0x14, 0x17, 0x1A, 0x1B, 0x1C, 0x1F] ++
  [0x22, 0x23, 0x27, 0x2B, 0x2F, 0x32, 0x33, 0x34, 0x37, 0x3A, 0x3B, 0x3C, 0x3F, 0x42, 0x43] ++
  [0x44, 0x47, 0x4B, 0x4F, 0x52, 0x53, 0x54, 0x57, 0x5A, 0x5B, 0x5C, 0x5F, 0x62, 0x63, 0x64] ++
  [0x67, 0x6B, 0x6F, 0x72, 0x73, 0x74, 0x77, 0x7A, 0x7B, 0x7C, 0x7F, 0x80, 0x82, 0x83, 0x87] ++
  [0x89, 0x8B, 0x8F, 0x92, 0x93, 0x97, 0x9B, 0x9C, 0x9E, 0x9F, 0xA3, 0xA7, 0xAB, 0xAF, 0xB2] ++
  [0xB3, 0xB7, 0xBB, 0xBF, 0xC2, 0xC3, 0xC7, 0xCB, 0xCF, 0xD2, 0xD3, 0xD4, 0xD7, 0xDA, 0xDB] ++
  [0xDC, 0xDF, 0xE2, 0xE3, 0xE7, 0xEB, 0xEF, 0xF2, 0xF3, 0xF4, 0xF7, 0xFA, 0xFB, 0xFC, 0xFF]

/-- The *Encoding* line of each mnemonic's rule (40 to 44): opcode, mode, base cycles (R88; a branch's 2 is its count when
not taken). -/
def encodings : Mnemonic → List (Byte × ModeKey × Nat)
  | .lda => [(0xA9, .imm, 2), (0xA5, .zp, 3), (0xB5, .zpx, 4), (0xAD, .abs, 4), (0xBD, .abx, 4), (0xB9, .aby, 4),
    (0xA1, .izx, 6), (0xB1, .izy, 5)]
  | .ldx => [(0xA2, .imm, 2), (0xA6, .zp, 3), (0xB6, .zpy, 4), (0xAE, .abs, 4), (0xBE, .aby, 4)]
  | .ldy => [(0xA0, .imm, 2), (0xA4, .zp, 3), (0xB4, .zpx, 4), (0xAC, .abs, 4), (0xBC, .abx, 4)]
  | .sta => [(0x85, .zp, 3), (0x95, .zpx, 4), (0x8D, .abs, 4), (0x9D, .abx, 5), (0x99, .aby, 5), (0x81, .izx, 6),
    (0x91, .izy, 6)]
  | .stx => [(0x86, .zp, 3), (0x96, .zpy, 4), (0x8E, .abs, 4)]
  | .sty => [(0x84, .zp, 3), (0x94, .zpx, 4), (0x8C, .abs, 4)]
  | .tax => [(0xAA, .imp, 2)]
  | .tay => [(0xA8, .imp, 2)]
  | .txa => [(0x8A, .imp, 2)]
  | .tya => [(0x98, .imp, 2)]
  | .tsx => [(0xBA, .imp, 2)]
  | .txs => [(0x9A, .imp, 2)]
  | .adc => [(0x69, .imm, 2), (0x65, .zp, 3), (0x75, .zpx, 4), (0x6D, .abs, 4), (0x7D, .abx, 4), (0x79, .aby, 4),
    (0x61, .izx, 6), (0x71, .izy, 5)]
  | .sbc => [(0xE9, .imm, 2), (0xE5, .zp, 3), (0xF5, .zpx, 4), (0xED, .abs, 4), (0xFD, .abx, 4), (0xF9, .aby, 4),
    (0xE1, .izx, 6), (0xF1, .izy, 5)]
  | .and => [(0x29, .imm, 2), (0x25, .zp, 3), (0x35, .zpx, 4), (0x2D, .abs, 4), (0x3D, .abx, 4), (0x39, .aby, 4),
    (0x21, .izx, 6), (0x31, .izy, 5)]
  | .ora => [(0x09, .imm, 2), (0x05, .zp, 3), (0x15, .zpx, 4), (0x0D, .abs, 4), (0x1D, .abx, 4), (0x19, .aby, 4),
    (0x01, .izx, 6), (0x11, .izy, 5)]
  | .eor => [(0x49, .imm, 2), (0x45, .zp, 3), (0x55, .zpx, 4), (0x4D, .abs, 4), (0x5D, .abx, 4), (0x59, .aby, 4),
    (0x41, .izx, 6), (0x51, .izy, 5)]
  | .cmp => [(0xC9, .imm, 2), (0xC5, .zp, 3), (0xD5, .zpx, 4), (0xCD, .abs, 4), (0xDD, .abx, 4), (0xD9, .aby, 4),
    (0xC1, .izx, 6), (0xD1, .izy, 5)]
  | .cpx => [(0xE0, .imm, 2), (0xE4, .zp, 3), (0xEC, .abs, 4)]
  | .cpy => [(0xC0, .imm, 2), (0xC4, .zp, 3), (0xCC, .abs, 4)]
  | .bit => [(0x24, .zp, 3), (0x2C, .abs, 4)]
  | .inc => [(0xE6, .zp, 5), (0xF6, .zpx, 6), (0xEE, .abs, 6), (0xFE, .abx, 7)]
  | .dec => [(0xC6, .zp, 5), (0xD6, .zpx, 6), (0xCE, .abs, 6), (0xDE, .abx, 7)]
  | .inx => [(0xE8, .imp, 2)]
  | .iny => [(0xC8, .imp, 2)]
  | .dex => [(0xCA, .imp, 2)]
  | .dey => [(0x88, .imp, 2)]
  | .asl => [(0x0A, .acc, 2), (0x06, .zp, 5), (0x16, .zpx, 6), (0x0E, .abs, 6), (0x1E, .abx, 7)]
  | .lsr => [(0x4A, .acc, 2), (0x46, .zp, 5), (0x56, .zpx, 6), (0x4E, .abs, 6), (0x5E, .abx, 7)]
  | .rol => [(0x2A, .acc, 2), (0x26, .zp, 5), (0x36, .zpx, 6), (0x2E, .abs, 6), (0x3E, .abx, 7)]
  | .ror => [(0x6A, .acc, 2), (0x66, .zp, 5), (0x76, .zpx, 6), (0x6E, .abs, 6), (0x7E, .abx, 7)]
  | .bpl => [(0x10, .rel, 2)]
  | .bmi => [(0x30, .rel, 2)]
  | .bvc => [(0x50, .rel, 2)]
  | .bvs => [(0x70, .rel, 2)]
  | .bcc => [(0x90, .rel, 2)]
  | .bcs => [(0xB0, .rel, 2)]
  | .bne => [(0xD0, .rel, 2)]
  | .beq => [(0xF0, .rel, 2)]
  | .jmp => [(0x4C, .abs, 3), (0x6C, .ind, 5)]
  | .jsr => [(0x20, .abs, 6)]
  | .rts => [(0x60, .imp, 6)]
  | .pha => [(0x48, .imp, 3)]
  | .php => [(0x08, .imp, 3)]
  | .pla => [(0x68, .imp, 4)]
  | .plp => [(0x28, .imp, 4)]
  | .clc => [(0x18, .imp, 2)]
  | .sec => [(0x38, .imp, 2)]
  | .cli => [(0x58, .imp, 2)]
  | .sei => [(0x78, .imp, 2)]
  | .cld => [(0xD8, .imp, 2)]
  | .sed => [(0xF8, .imp, 2)]
  | .clv => [(0xB8, .imp, 2)]
  | .nop => [(0xEA, .imp, 2)]
  | .brk => [(0x00, .imp, 7)]
  | .rti => [(0x40, .imp, 6)]
  | .unassigned => unassignedOpcodes.map fun op => (op, .imp, 2)

/-- The instruction has the opcode, the mode and the base cycle count `n` of its rule's *Encoding* line. -/
abbrev EncodedAs (i : Instr) (n : Nat) : Prop := (i.opcode, i.mode.key, n) ∈ encodings i.mnemonic

/-- The same, with `n` the default of the instruction's `BASE_CYCLES` (R88; log 4). -/
abbrev HasLine (i : Instr) (n : Nat) : Prop := EncodedAs i n ∧ baseCount defaultParams i.opcode = n

/-- The branch mnemonics with the flag they test and the value that takes the branch (R151 to R158). -/
def branchConditions : List (Mnemonic × Flag × Bool) :=
  [(.bpl, .N, false), (.bmi, .N, true), (.bvc, .V, false), (.bvs, .V, true),
   (.bcc, .C, false), (.bcs, .C, true), (.bne, .Z, false), (.beq, .Z, true)]

/-- The mnemonics that write a flag (R16; B and U by R14). -/
def flagWriters : Flag → List Mnemonic
  | .C => [.adc, .sbc, .cmp, .cpx, .cpy, .asl, .lsr, .rol, .ror, .clc, .sec, .plp, .rti]
  | .Z => [.lda, .ldx, .ldy, .tax, .tay, .txa, .tya, .tsx, .pla, .and, .ora, .eor, .adc, .sbc, .cmp, .cpx, .cpy, .inc,
           .dec, .inx, .iny, .dex, .dey, .asl, .lsr, .rol, .ror, .bit, .plp, .rti]
  | .I => [.sei, .cli, .plp, .rti, .brk]
  | .D => [.sed, .cld, .plp, .rti]
  | .B => [.plp, .rti]
  | .U => [.plp, .rti]
  | .V => [.adc, .sbc, .bit, .clv, .plp, .rti]
  | .N => [.lda, .ldx, .ldy, .tax, .tay, .txa, .tya, .tsx, .pla, .and, .ora, .eor, .adc, .sbc, .cmp, .cpx, .cpy, .inc,
           .dec, .inx, .iny, .dex, .dey, .asl, .lsr, .rol, .ror, .bit, .plp, .rti]

/-- The mnemonics that write `A` (R10); of the shifts, the accumulator forms. -/
def accumulatorWriters : List Mnemonic := [.lda, .txa, .tya, .pla, .adc, .sbc, .and, .ora, .eor]

/-- The shifts, which write `A` in `acc` mode only (R10). -/
def shiftMnemonics : List Mnemonic := [.asl, .lsr, .rol, .ror]

/-- The mnemonics that write `X` (R10). -/
def xWriters : List Mnemonic := [.ldx, .tax, .tsx, .inx, .dex]

/-- The mnemonics that write `Y` (R10). -/
def yWriters : List Mnemonic := [.ldy, .tay, .iny, .dey]

/-- The mnemonics that write `SP` (R12): pushes, pops and TXS. -/
def spWriters : List Mnemonic := [.pha, .php, .pla, .plp, .jsr, .rts, .brk, .rti, .txs]

/-- The mnemonics that overwrite `PC` after the fetch (R11). -/
def pcWriters : List Mnemonic :=
  [.bpl, .bmi, .bvc, .bvs, .bcc, .bcs, .bne, .beq, .jmp, .jsr, .rts, .brk, .rti]

/-! ## Vocabulary of the claims: memory -/

/-- Two CPU addresses name one byte of memory: the same address, or mirrors of one byte of work RAM (R43). -/
abbrev SameCell (a b : Word) : Prop :=
  a = b ∨ a.toNat < 0x2000 ∧ b.toNat < 0x2000 ∧ a.toNat % 0x800 = b.toNat % 0x800

/-- A CPU address of PPU port `r` (R44). -/
abbrev IsPort (r : Nat) (a : Word) : Prop := 0x2000 ≤ a.toNat ∧ a.toNat < 0x4000 ∧ a.toNat % 8 = r

/-- Memory after a step that stores at most at the CPU addresses `stored`: every byte of work RAM, program RAM and
program ROM elsewhere reads as before; video memory changes only through port 7, OAM only through port 4 and `$4014`. -/
structure StoresOnlyAt (stored : List Word) (s t : State) : Prop where
  cpu : ∀ b : Word, isMemory b = true → (∀ a ∈ stored, ¬ SameCell a b) → (memRead t b).1 = (memRead s b).1
  video : (∀ a ∈ stored, ¬ IsPort 7 a) → ∀ v : VideoAddr, ppuRead t v = ppuRead s v
  oam : (∀ a ∈ stored, ¬ IsPort 4 a ∧ a ≠ 0x4014) → ∀ k : Nat, t.ppu.oam.read k = s.ppu.oam.read k

/-- The mnemonics whose memory form stores at its effective address (R85): stores and read-modify-write. -/
def storingMnemonics : List Mnemonic := [.sta, .stx, .sty, .inc, .dec, .asl, .lsr, .rol, .ror]

/-- The addresses an instruction stores to, from the state it runs in: its effective address (R85), or the stack bytes it
pushes (R17). -/
def storedAt (i : Instr) (s : State) : List Word :=
  if i.mnemonic = .pha ∨ i.mnemonic = .php then [stackAddr s.sp]
  else if i.mnemonic = .jsr then [stackAddr s.sp, stackAddr (s.sp - 1)]
  else if i.mnemonic = .brk then [stackAddr s.sp, stackAddr (s.sp - 1), stackAddr (s.sp - 2)]
  else if i.mnemonic ∈ storingMnemonics then
    match i.mode with
    | .mem m => [effAddr m s]
    | _ => []
  else []

/-- What a read of the CPU bus can change (R55): four PPU registers and the joypad's index. -/
def OnlyReadEffects (s t : State) : Prop :=
  t = { s with
    ppu := { s.ppu with
      status := t.ppu.status, addressLatch := t.ppu.addressLatch, vramAddress := t.ppu.vramAddress,
      readBuffer := t.ppu.readBuffer },
    joypad := { s.joypad with shiftIndex := t.joypad.shiftIndex } }

/-- The machine after the first bytes of an OAM DMA from a page, as the loop of R48: byte `k` is read through the router and
stored at `(oamAddress + k) & 0xFF`. -/
def dmaAfter (page : Byte) (s : State) : Nat → State
  | 0 => s
  | k + 1 =>
    let r := memRead (dmaAfter page s k) (u16 page (BitVec.ofNat 8 k))
    { r.2 with ppu := { r.2.ppu with oam := r.2.ppu.oam.write ((s.ppu.oamAddress.toNat + k) % 256) r.1 } }

/-- The machine after the first reads of a page, in ascending order (R41, R48). -/
def readsAfter (page : Byte) (s : State) : Nat → State
  | 0 => s
  | k + 1 => (memRead (readsAfter page s k) (u16 page (BitVec.ofNat 8 k))).2

/-- The machine after the first byte fetches at `PC`, in address order (R11, R59, R70): each is a read of the CPU bus in the
state that the one before it left, and moves `PC` past its byte. -/
def fetchedAfter (s : State) : Nat → State
  | 0 => s
  | k + 1 => { (memRead (fetchedAfter s k) (s.pc + BitVec.ofNat 16 k)).2 with pc := s.pc + BitVec.ofNat 16 (k + 1) }

/-- Work RAM after the three pushes of an exception entry (R295, R182). -/
def pushedFrame (s : State) (pc : Word) (status : Byte) : Memory :=
  ((s.ram.write (0x100 + s.sp.toNat) (hi8 pc)).write (0x100 + (s.sp - 1).toNat) (lo8 pc)).write
    (0x100 + (s.sp - 2).toNat) status

/-- Two video addresses name one byte (R203, R205, R206): the same address of character data, the same nametable byte, or
the same palette byte. -/
abbrev SameVideoCell (mirroring : Mirroring) (a b : VideoAddr) : Prop :=
  a = b ∨
  (0x2000 ≤ a.toNat ∧ a.toNat < 0x3F00 ∧ 0x2000 ≤ b.toNat ∧ b.toNat < 0x3F00 ∧
    ntIndex mirroring a.toNat = ntIndex mirroring b.toNat) ∨
  (0x3F00 ≤ a.toNat ∧ 0x3F00 ≤ b.toNat ∧ palIndex a.toNat = palIndex b.toNat)

/-- A video address that a write changes: not character ROM (R204). -/
abbrev VideoWritable (s : State) (a : VideoAddr) : Prop := 0x2000 ≤ a.toNat ∨ s.cart.hasCharacterRAM = true

/-- The length of the format that a mode uses (R71, R73). -/
def formatLength : ModeKey → Nat
  | .imp | .acc => 1
  | .imm | .zp | .zpx | .zpy | .izx | .izy | .rel => 2
  | .abs | .abx | .aby | .ind => 3

/-- The carry as a number. -/
def State.carry (s : State) : Nat := (s.flag .C).toNat

/-- The byte that a shift mnemonic makes of `m` with carry in `c`, and the carry out, in numbers (R140 to R143). -/
def shiftNumbers (op : Mnemonic) (m : Byte) (c : Nat) : Option (Byte × Bool) :=
  match op with
  | .asl => some (BitVec.ofNat 8 (2 * m.toNat), decide (128 ≤ m.toNat))
  | .lsr => some (BitVec.ofNat 8 (m.toNat / 2), decide (m.toNat % 2 = 1))
  | .rol => some (BitVec.ofNat 8 (2 * m.toNat + c), decide (128 ≤ m.toNat))
  | .ror => some (BitVec.ofNat 8 (m.toNat / 2 + 128 * c), decide (m.toNat % 2 = 1))
  | _ => none

/-! ## Vocabulary of the claims: rendering -/

/-- The pixel writes of the sprite pass as the spec's loops make them (R229 to R235): `i` from 63 down to 0, `r` from 0 to
`h - 1`, `c` from 0 to 7, with the sprite's top row and left column from its OAM bytes 0 and 3 (R231, R233, R240); rows at
or below 240 and columns at or beyond 256 are skipped. -/
def spriteWrites (s : State) : List (Nat × Nat × Byte) :=
  (List.range 64).reverse.flatMap fun i =>
    let top := (s.ppu.oam.read (4 * i)).toNat + s.params.spriteYOffset.val
    let left := (s.ppu.oam.read (4 * i + 3)).toNat
    (List.range (if s.ppu.control.getLsbD 5 then 16 else 8)).flatMap fun r =>
      if 240 ≤ top + r then []
      else (List.range 8).filterMap fun c =>
        if 256 ≤ left + c then none
        else (spriteDraws s i r c).map fun v => (left + c, top + r, v)

end Sys2Proof.Machine
end

