-- ==== Sys2Proof/Certificates/Slice0/Obligations.lean ====
section
/-!
DEFINITION. The statements for the provers. A statement about an instruction says that `exec` answers a next state and which
one, for every state and every operand, so it is also the statement that the instruction completes and what it leaves
unchanged. Opcode values (R86) and the flag layout (R13) are the spec's own readings of its source (log 21); base cycle
counts (R88) are the parameter `BASE_CYCLES`, whose default is log 4.
-/

open Sys2Proof Sys2Proof.Machine

/-! ## Encoding -/

/-- R70 to R73, R86, R87: decoding an encoded instruction gives it back, with every operand value, whatever bytes
follow.
Open points: rests on what the spec derives or takes from general knowledge (log 21). -/
def Obligations.DecodeEncodeRoundTrip : Prop :=
  ∀ (i : Instr) (rest : List Byte), i.wellFormed = true ∧ decode (encode i ++ rest) = .ok (i, rest)

/-- R70, R72: a decoded instruction encodes to exactly the bytes it was read from; decoding fails only where the byte
list ends too early. -/
def Obligations.DecodedBytesEncodeBack : Prop :=
  (∀ (bs rest : List Byte) (i : Instr), decode bs = .ok (i, rest) → encode i ++ rest = bs) ∧
  (∀ bs : List Byte, (∃ e, decode bs = .error e) ↔
    bs = [] ∨ ∃ (op : Byte) (tl : List Byte), bs = op :: tl ∧ tl.length + 1 < opcodeLength op)

/-- R71, R72, R73 and the *Encoding* lines of 40 to 44: every instruction has exactly one such line, every line is some
instruction's, no two lines share an opcode, and the opcode gives the length of the mode's format.
Open points: rests on the spec's own readings D9 (log 21); the count is the parameter `BASE_CYCLES`, its default log 4. -/
def Obligations.EncodingLines : Prop :=
  (∀ i : Instr, (∃ n, HasLine i n ∧ ∀ n', EncodedAs i n' → n' = n) ∧
    i.length = formatLength i.mode.key ∧ opcodeLength i.opcode = i.length) ∧
  (∀ (m : Mnemonic) (op : Byte) (k : ModeKey) (n : Nat), (op, k, n) ∈ encodings m →
    ∃ i : Instr, i.mnemonic = m ∧ i.opcode = op ∧ i.mode.key = k) ∧
  (∀ (m m' : Mnemonic) (e e' : Byte × ModeKey × Nat),
    e ∈ encodings m → e' ∈ encodings m' → e.1 = e'.1 → m = m' ∧ e = e')

/-- R71, R86: words written out from the spec's encodings decode to the instructions they stand for.
Open points: rests on what the spec derives or takes from general knowledge (log 21). -/
def Obligations.WrittenOutWordsDecode : Prop :=
  decodeTableWord 16 0x42A9 = some (.ldaImm 0x42) ∧
  decodeTableWord 24 0x20008D = some (.staAbs 0x2000) ∧
  decodeTableWord 16 0x50E9 = some (.sbcImm 0x50) ∧
  decodeTableWord 24 0x12347E = some (.rorAbx 0x1234) ∧
  decodeTableWord 16 0xF9D0 = some (.bne 0xF9) ∧
  decodeTableWord 24 0x10FF6C = some (.jmpInd 0x10FF) ∧
  decodeTableWord 24 0x123420 = some (.jsr 0x1234) ∧
  decodeTableWord 8 0x00 = some .brk ∧
  decodeTableWord 8 0x02 = some .unassigned02

/-- R186, R87: the 105 unassigned opcodes are one byte long and do nothing: after the opcode fetch only `cycles` is set;
the CPU's step makes no access beyond the fetch.
Open points: rests on the spec's own readings D6 (log 21). -/
def Obligations.UnassignedOpcodes : Prop :=
  unassignedOpcodes.length = 105 ∧
  ∀ op ∈ unassignedOpcodes, ∀ (b1 b2 : Byte) (s : State),
    (decodeBytes op b1 b2).length = 1 ∧
    exec (decodeBytes op b1 b2) s = .next { s with cycles := 2 } ∧
    (s.nmiPending = false → (s.irqPending = false ∨ s.flag .I = true) → (memRead s s.pc).1 = op →
      cpuStep s = .next { (memRead s s.pc).2 with pc := s.pc + 1, cycles := 2 })

/-! ## The step -/

/-- R280, R281, R291, R292: with a cartridge, `step` is one step of the CPU, which takes an interrupt or runs an
instruction (`Obligations.InterruptService`), between the sequencer's work before it and after it. With no interrupt to
service, it runs the instruction that its fetched bytes decode to, on the state after the fetch (`PC` past the
instruction).
Open points: rests on the spec's own readings D33, D37 (log 21); the step granularity is log 1. -/
def Obligations.StepRunsDecodedInstruction : Prop :=
  (∀ s : State, s.cartridgeAttached = true →
    ∃ t, cpuStep (startFrame s) = .next t ∧ step s = .next (closeStep t)) ∧
  ∀ (s t : State) (i : Instr),
    s.cartridgeAttached = true → s.nmiPending = false → (s.irqPending = false ∨ s.flag .I = true) →
    decode (fetchInstr (startFrame s)).1 = .ok (i, []) → i.wellFormed = true →
    exec i (fetchInstr (startFrame s)).2 = .next t →
    (fetchInstr (startFrame s)).2.pc = s.pc + BitVec.ofNat 16 i.length ∧ step s = .next (closeStep t)

/-- R11, R55, R59, R70, R72: an instruction is fetched byte by byte through the router, from any address, devices
included: byte `k` is the byte read in the state that the first `k` fetches left, the opcode byte gives the number, and
the CPU's step is the instruction that the bytes decode to, on the state after them. Where the bytes lie in work RAM,
program RAM or program ROM, fetching them changes only `PC`.
Open points: rests on what the spec derives or takes from general knowledge (log 21). -/
def Obligations.FetchFromMemory : Prop :=
  (∀ s : State,
    let n := opcodeLength (memRead s s.pc).1
    fetchInstr s = ((List.range n).map fun k => (memRead (fetchedAfter s k) (s.pc + BitVec.ofNat 16 k)).1,
      fetchedAfter s n) ∧
    ∃ i : Instr, decode (fetchInstr s).1 = .ok (i, []) ∧
      (s.nmiPending = false → (s.irqPending = false ∨ s.flag .I = true) → cpuStep s = exec i (fetchedAfter s n))) ∧
  ∀ (s : State) (i : Instr),
    (∀ k < i.length, isMemory (s.pc + BitVec.ofNat 16 k) = true ∧
      (memRead s (s.pc + BitVec.ofNat 16 k)).1 = (encode i).getD k 0) →
    fetchInstr s = (encode i, { s with pc := s.pc + BitVec.ofNat 16 i.length }) ∧
    (s.nmiPending = false → (s.irqPending = false ∨ s.flag .I = true) →
      cpuStep s = exec i { s with pc := s.pc + BitVec.ofNat 16 i.length })

/-- R88, R150, R186, R297: every instruction completes in every state, in its base cycle count, but for a branch, which
takes 2, 3 or 4, and an unassigned opcode, which takes 2. With the default counts that is 2 to 7, the count of the
*Encoding* line.
Open points: rests on the spec's own readings D6, D9, D43 (log 21); the count is the parameter `BASE_CYCLES`, its
default log 4. -/
def Obligations.EveryInstructionCompletes : Prop :=
  ∀ (i : Instr) (s : State), ∃ t, exec i s = .next t ∧
    (i.mode.key ≠ .rel → i.mnemonic ≠ .unassigned → t.cycles = baseCount s.params i.opcode) ∧
    (i.mode.key = .rel → 2 ≤ t.cycles ∧ t.cycles ≤ 4) ∧
    (i.mnemonic = .unassigned → t.cycles = 2) ∧
    (s.params.baseCycles = defaultBaseCycles → 2 ≤ t.cycles ∧ t.cycles ≤ 7 ∧
      (i.mode.key ≠ .rel → EncodedAs i t.cycles))

/-- R280, R284: every step completes, a CPU step with 2 to 7 cycles where the base counts are so; without a cartridge
nothing changes at all.
Open points: rests on the spec's own readings D9, D33, D37, D48 (log 21); the count is the parameter `BASE_CYCLES`, its
default log 4. -/
def Obligations.EveryStepCompletes : Prop :=
  ∀ s : State,
    (∃ t, step s = .next t) ∧
    (∃ t, cpuStep s = .next t ∧
      ((∀ op, 2 ≤ baseCount s.params op ∧ baseCount s.params op ≤ 7) → 2 ≤ t.cycles ∧ t.cycles ≤ 7)) ∧
    (∃ t, runOneFrame s = .next t) ∧
    (s.cartridgeAttached = false → step s = .next s ∧ runOneFrame s = .next s)

/-! ## Loads, stores, transfers -/

/-- R100, R101, R102: LDA, LDX, LDY load `M` and set Z and N from it; nothing else changes but what the data read itself
does to a device.
Open points: rests on the spec's own readings D9 (log 21); the count is the parameter `BASE_CYCLES`, its default log 4. -/
def Obligations.LoadInstructions : Prop :=
  ∀ (i : Instr) (s : State),
    (i.mnemonic = .lda → ∃ (o : Operand) (n : Nat) (p' : Byte), i.mode = o.mode ∧ HasLine i n ∧
      FlagsAfter s.p p' (zn (readOperand o s).1) ∧
      exec i s = .next { (readOperand o s).2 with
        a := (readOperand o s).1, p := p', cycles := baseCount s.params i.opcode }) ∧
    (i.mnemonic = .ldx → ∃ (o : Operand) (n : Nat) (p' : Byte), i.mode = o.mode ∧ HasLine i n ∧
      FlagsAfter s.p p' (zn (readOperand o s).1) ∧
      exec i s = .next { (readOperand o s).2 with
        x := (readOperand o s).1, p := p', cycles := baseCount s.params i.opcode }) ∧
    (i.mnemonic = .ldy → ∃ (o : Operand) (n : Nat) (p' : Byte), i.mode = o.mode ∧ HasLine i n ∧
      FlagsAfter s.p p' (zn (readOperand o s).1) ∧
      exec i s = .next { (readOperand o s).2 with y := (readOperand o s).1, p := p', cycles := baseCount s.params i.opcode })

/-- R103, R104, R105: STA, STX, STY make one bus write at the effective address and nothing else; no register or flag
changes.
Open points: rests on the spec's own readings D9 (log 21); the count is the parameter `BASE_CYCLES`, its default log 4. -/
def Obligations.StoreInstructions : Prop :=
  ∀ (i : Instr) (s : State),
    (i.mnemonic = .sta → ∃ (m : MemMode) (n : Nat), i.mode = .mem m ∧ HasLine i n ∧
      exec i s = .next { memWrite s (effAddr m s) s.a with cycles := baseCount s.params i.opcode }) ∧
    (i.mnemonic = .stx → ∃ (m : MemMode) (n : Nat), i.mode = .mem m ∧ HasLine i n ∧
      exec i s = .next { memWrite s (effAddr m s) s.x with cycles := baseCount s.params i.opcode }) ∧
    (i.mnemonic = .sty → ∃ (m : MemMode) (n : Nat), i.mode = .mem m ∧ HasLine i n ∧
      exec i s = .next { memWrite s (effAddr m s) s.y with cycles := baseCount s.params i.opcode })

/-- R106 to R111: the transfers; all set Z and N from the byte moved but TXS, which changes no flag.
Open points: rests on the spec's own readings D9 (log 21); the count is the parameter `BASE_CYCLES`, its default log 4. -/
def Obligations.TransferInstructions : Prop :=
  ∀ s : State,
    (∃ p', HasLine .tax 2 ∧ FlagsAfter s.p p' (zn s.a) ∧
      exec .tax s = .next { s with x := s.a, p := p', cycles := baseCount s.params 0xAA }) ∧
    (∃ p', HasLine .tay 2 ∧ FlagsAfter s.p p' (zn s.a) ∧
      exec .tay s = .next { s with y := s.a, p := p', cycles := baseCount s.params 0xA8 }) ∧
    (∃ p', HasLine .txa 2 ∧ FlagsAfter s.p p' (zn s.x) ∧
      exec .txa s = .next { s with a := s.x, p := p', cycles := baseCount s.params 0x8A }) ∧
    (∃ p', HasLine .tya 2 ∧ FlagsAfter s.p p' (zn s.y) ∧
      exec .tya s = .next { s with a := s.y, p := p', cycles := baseCount s.params 0x98 }) ∧
    (∃ p', HasLine .tsx 2 ∧ FlagsAfter s.p p' (zn s.sp) ∧
      exec .tsx s = .next { s with x := s.sp, p := p', cycles := baseCount s.params 0xBA }) ∧
    (HasLine .txs 2 ∧ exec .txs s = .next { s with sp := s.x, cycles := baseCount s.params 0x9A })

/-! ## Arithmetic and logic -/

/-- R121, R122: ADC and SBC in numbers. ADC: carry is a 9-bit result beyond 0xFF; overflow is two operands of one sign
with a result of the other. SBC: `A - M - (1 - C)`; carry is no borrow; overflow is two operands of different signs with
a result whose sign is not `A`'s.
Open points: rests on the spec's own readings D9 (log 21); the count is the parameter `BASE_CYCLES`, its default log 4. -/
def Obligations.AdcAndSbc : Prop :=
  ∀ (i : Instr) (s : State),
    (i.mnemonic = .adc → ∃ (o : Operand) (n : Nat) (p' m r : Byte), i.mode = o.mode ∧ HasLine i n ∧
      m = (readOperand o s).1 ∧ r = BitVec.ofNat 8 (s.a.toNat + m.toNat + s.carry) ∧
      FlagsAfter s.p p' ([(.C, decide (0xFF < s.a.toNat + m.toNat + s.carry)),
        (.V, decide (s.a.msb = m.msb ∧ r.msb ≠ s.a.msb))] ++ zn r) ∧
      exec i s = .next { (readOperand o s).2 with a := r, p := p', cycles := baseCount s.params i.opcode }) ∧
    (i.mnemonic = .sbc → ∃ (o : Operand) (n : Nat) (p' m r : Byte), i.mode = o.mode ∧ HasLine i n ∧
      m = (readOperand o s).1 ∧
      r = BitVec.ofInt 8 ((s.a.toNat : Int) - (m.toNat : Int) - (1 - (s.carry : Int))) ∧
      FlagsAfter s.p p' ([(.C, decide (m.toNat + (1 - s.carry) ≤ s.a.toNat)),
        (.V, decide (s.a.msb ≠ m.msb ∧ r.msb ≠ s.a.msb))] ++ zn r) ∧
      exec i s = .next { (readOperand o s).2 with a := r, p := p', cycles := baseCount s.params i.opcode })

/-- R122, the round-trip law: ADC then SBC of the same byte restores `A` exactly when the carry out of the ADC differs
from the carry in; otherwise `A` is one more (both set) or one less (both clear). -/
def Obligations.AdcThenSbc : Prop :=
  ∀ (s : State) (m : Byte), ∃ t u, exec (.adcImm m) s = .next t ∧ exec (.sbcImm m) t = .next u ∧
    (u.a = s.a ↔ t.flag .C ≠ s.flag .C) ∧
    (t.flag .C = true → s.flag .C = true → u.a = s.a + 1) ∧
    (t.flag .C = false → s.flag .C = false → u.a = s.a - 1)

/-- R123, R124, R125: AND, ORA, EOR bit by bit; Z and N from the result, no other flag.
Open points: rests on the spec's own readings D9 (log 21); the count is the parameter `BASE_CYCLES`, its default log 4. -/
def Obligations.LogicInstructions : Prop :=
  ∀ (i : Instr) (s : State), i.mnemonic ∈ [.and, .ora, .eor] →
    ∃ (o : Operand) (n : Nat) (p' m r : Byte), i.mode = o.mode ∧ HasLine i n ∧ m = (readOperand o s).1 ∧
      (∀ k, i.mnemonic = .and → r.getLsbD k = (s.a.getLsbD k && m.getLsbD k)) ∧
      (∀ k, i.mnemonic = .ora → r.getLsbD k = (s.a.getLsbD k || m.getLsbD k)) ∧
      (∀ k, i.mnemonic = .eor → r.getLsbD k = (s.a.getLsbD k != m.getLsbD k)) ∧
      FlagsAfter s.p p' (zn r) ∧
      exec i s = .next { (readOperand o s).2 with a := r, p := p', cycles := baseCount s.params i.opcode }

/-- R126, R127, R128: CMP, CPX, CPY compare without sign: C is register at least operand, Z is equality, N is bit 7 of
the difference; no register is written.
Open points: rests on the spec's own readings D9 (log 21); the count is the parameter `BASE_CYCLES`, its default log 4. -/
def Obligations.CompareInstructions : Prop :=
  ∀ (i : Instr) (s : State) (reg : Byte),
    (i.mnemonic, reg) ∈ [(.cmp, s.a), (.cpx, s.x), (.cpy, s.y)] →
    ∃ (o : Operand) (n : Nat) (p' m : Byte), i.mode = o.mode ∧ HasLine i n ∧ m = (readOperand o s).1 ∧
      FlagsAfter s.p p' [(.C, decide (m.toNat ≤ reg.toNat)), (.Z, decide (reg = m)),
        (.N, decide (128 ≤ ((256 + reg.toNat - m.toNat) % 256)))] ∧
      exec i s = .next { (readOperand o s).2 with p := p', cycles := baseCount s.params i.opcode }

/-- R129: BIT sets Z from `A & M`, V from bit 6 and N from bit 7 of `M`; `A` and C stay.
Open points: rests on the spec's own readings D9 (log 21); the count is the parameter `BASE_CYCLES`, its default log 4. -/
def Obligations.BitTest : Prop :=
  ∀ (i : Instr) (s : State), i.mnemonic = .bit →
    ∃ (m : MemMode) (n : Nat) (p' b : Byte), i.mode = .mem m ∧ HasLine i n ∧ b = (readOperand (.mem m) s).1 ∧
      FlagsAfter s.p p' [(.Z, decide (∀ k : Fin 8, (s.a.getLsbD k && b.getLsbD k) = false)), (.V, b.getLsbD 6),
        (.N, b.getLsbD 7)] ∧
      exec i s = .next { (readOperand (.mem m) s).2 with p := p', cycles := baseCount s.params i.opcode }

/-- R130, R131: INC and DEC read the byte once, store it changed by one modulo 256 at the same address, and set Z and N
from the stored byte.
Open points: rests on the spec's own readings D9 (log 21); the count is the parameter `BASE_CYCLES`, its default log 4. -/
def Obligations.IncDecMemory : Prop :=
  ∀ (i : Instr) (s : State) (d : Nat), (i.mnemonic, d) ∈ [(.inc, 1), (.dec, 255)] →
    ∃ (m : MemMode) (n : Nat) (p' r : Byte), i.mode = .mem m ∧ HasLine i n ∧
      r.toNat = ((readOperand (.mem m) s).1.toNat + d) % 256 ∧
      FlagsAfter s.p p' (zn r) ∧
      exec i s = .next { memWrite { (readOperand (.mem m) s).2 with p := p' } (effAddr m s) r with
        cycles := baseCount s.params i.opcode }

/-- R132 to R135: INX, INY, DEX, DEY.
Open points: rests on the spec's own readings D9 (log 21); the count is the parameter `BASE_CYCLES`, its default log 4. -/
def Obligations.IncDecRegisters : Prop :=
  ∀ s : State,
    (∃ r p' : Byte, HasLine .inx 2 ∧ r.toNat = (s.x.toNat + 1) % 256 ∧ FlagsAfter s.p p' (zn r) ∧
      exec .inx s = .next { s with x := r, p := p', cycles := baseCount s.params 0xE8 }) ∧
    (∃ r p' : Byte, HasLine .iny 2 ∧ r.toNat = (s.y.toNat + 1) % 256 ∧ FlagsAfter s.p p' (zn r) ∧
      exec .iny s = .next { s with y := r, p := p', cycles := baseCount s.params 0xC8 }) ∧
    (∃ r p' : Byte, HasLine .dex 2 ∧ r.toNat = (s.x.toNat + 255) % 256 ∧ FlagsAfter s.p p' (zn r) ∧
      exec .dex s = .next { s with x := r, p := p', cycles := baseCount s.params 0xCA }) ∧
    (∃ r p' : Byte, HasLine .dey 2 ∧ r.toNat = (s.y.toNat + 255) % 256 ∧ FlagsAfter s.p p' (zn r) ∧
      exec .dey s = .next { s with y := r, p := p', cycles := baseCount s.params 0x88 })

/-- R140 to R143: ASL, LSR, ROL, ROR in numbers, on `A` and on memory: C is the bit shifted out, Z and N follow the
result; on memory one read and one write of the same address.
Open points: rests on the spec's own readings D9 (log 21); the count is the parameter `BASE_CYCLES`, its default log 4. -/
def Obligations.ShiftInstructions : Prop :=
  ∀ (i : Instr) (s : State), i.mnemonic ∈ shiftMnemonics →
    (i.mode = .acc → ∃ (r : Byte × Bool) (p' : Byte), shiftNumbers i.mnemonic s.a s.carry = some r ∧ HasLine i 2 ∧
      FlagsAfter s.p p' ((.C, r.2) :: zn r.1) ∧
      exec i s = .next { s with a := r.1, p := p', cycles := baseCount s.params i.opcode }) ∧
    (i.mode ≠ .acc → ∃ (m : MemMode) (n : Nat) (r : Byte × Bool) (p' : Byte), i.mode = .mem m ∧ HasLine i n ∧
      shiftNumbers i.mnemonic (readOperand (.mem m) s).1 s.carry = some r ∧
      FlagsAfter s.p p' ((.C, r.2) :: zn r.1) ∧
      exec i s = .next { memWrite { (readOperand (.mem m) s).2 with p := p' } (effAddr m s) r.1 with
        cycles := baseCount s.params i.opcode })

/-! ## Control flow -/

/-- R150 to R158: a branch whose flag has its value goes to the next instruction's address plus the signed offset,
modulo 65536, in 3 cycles, or 4 when the page differs; otherwise only 2 cycles pass.
Open points: rests on the spec's own readings D43 (log 21). -/
def Obligations.BranchInstructions : Prop :=
  ∀ (i : Instr) (s : State) (f : Flag) (v : Bool), (i.mnemonic, f, v) ∈ branchConditions →
    ∃ (off : Byte) (target : Word), i.mode = .rel off ∧ EncodedAs i 2 ∧
      target = BitVec.ofInt 16 ((s.pc.toNat : Int) + off.toInt) ∧
      (s.flag f ≠ v → exec i s = .next { s with cycles := 2 }) ∧
      (s.flag f = v → target.toNat / 256 = s.pc.toNat / 256 →
        exec i s = .next { s with pc := target, cycles := 3 }) ∧
      (s.flag f = v → target.toNat / 256 ≠ s.pc.toNat / 256 →
        exec i s = .next { s with pc := target, cycles := 4 })

/-- R159, R80: JMP to its operand, or through a pointer whose high byte comes from the same page as its low byte, read
second.
Open points: rests on the spec's own readings D9, D42 (log 21); the count is the parameter `BASE_CYCLES`, its default
log 4. -/
def Obligations.JumpInstructions : Prop :=
  ∀ (s : State) (w : Word),
    (HasLine (.jmpAbs w) 3 ∧ exec (.jmpAbs w) s = .next { s with pc := w, cycles := baseCount s.params 0x4C }) ∧
    (HasLine (.jmpInd w) 5 ∧ ∃ (lo hi : Byte × State), lo = memRead s w ∧
      hi = memRead lo.2 ((w &&& 0xFF00) ||| ((w + 1) &&& 0x00FF)) ∧
      exec (.jmpInd w) s = .next { hi.2 with
        pc := (hi.1.setWidth 16 <<< 8) ||| lo.1.setWidth 16, cycles := baseCount s.params 0x6C })

/-- R160, R161: JSR pushes the address of its own last byte, high byte first; RTS pops it and adds 1; so a JSR followed
at once by RTS returns to the next instruction with `SP` back.
Open points: rests on the spec's own readings D7, D9 (log 21); the count is the parameter `BASE_CYCLES`, its default log
4. -/
def Obligations.SubroutineCallAndReturn : Prop :=
  ∀ (s : State) (w : Word),
    (HasLine (.jsr w) 6 ∧ exec (.jsr w) s = .next { s with
      ram := (s.ram.write (0x100 + s.sp.toNat) (hi8 (s.pc - 1))).write (0x100 + (s.sp - 1).toNat) (lo8 (s.pc - 1)),
      sp := s.sp - 2, pc := w, cycles := baseCount s.params 0x20 }) ∧
    (HasLine .rts 6 ∧ exec .rts s = .next { s with
      sp := s.sp + 2,
      pc := u16 (s.ram.read (0x100 + (s.sp + 2).toNat)) (s.ram.read (0x100 + (s.sp + 1).toNat)) + 1,
      cycles := baseCount s.params 0x60 }) ∧
    (∃ t, exec (.jsr w) s = .next t ∧ exec .rts t = .next { t with
      pc := s.pc, sp := s.sp, cycles := baseCount s.params 0x60 })

/-! ## Stack, flags, exceptions -/

/-- R170 to R173, R17: PHA and PHP push; PLA and PLP pop. PHP's byte has bits 4 and 5 set; PLP loads every flag but B
and U, which get 0 and 1; the stack wraps inside its page.
Open points: rests on the spec's own readings D3, D9 (log 21); the count is the parameter `BASE_CYCLES`, its default log
4. -/
def Obligations.PushAndPull : Prop :=
  ∀ s : State,
    (HasLine .pha 3 ∧ exec .pha s = .next { s with
      ram := s.ram.write (0x100 + s.sp.toNat) s.a, sp := s.sp - 1, cycles := baseCount s.params 0x48 }) ∧
    (∃ b : Byte, HasLine .php 3 ∧ FlagsAfter s.p b [(.B, true), (.U, true)] ∧ exec .php s = .next { s with
      ram := s.ram.write (0x100 + s.sp.toNat) b, sp := s.sp - 1, cycles := baseCount s.params 0x08 }) ∧
    (∃ v p' : Byte, HasLine .pla 4 ∧ v = s.ram.read (0x100 + (s.sp + 1).toNat) ∧ FlagsAfter s.p p' (zn v) ∧
      exec .pla s = .next { s with a := v, sp := s.sp + 1, p := p', cycles := baseCount s.params 0x68 }) ∧
    (∃ v p' : Byte, HasLine .plp 4 ∧ v = s.ram.read (0x100 + (s.sp + 1).toNat) ∧
      FlagsAfter v p' [(.B, false), (.U, true)] ∧
      exec .plp s = .next { s with p := p', sp := s.sp + 1, cycles := baseCount s.params 0x28 })

/-- R174 to R181: each flag instruction writes its one flag; NOP writes nothing.
Open points: rests on the spec's own readings D9 (log 21); the count is the parameter `BASE_CYCLES`, its default log 4. -/
def Obligations.FlagInstructions : Prop :=
  (∀ (s : State) (i : Instr) (f : Flag) (v : Bool),
    (i, f, v) ∈ [(.clc, .C, false), (.sec, .C, true), (.cli, .I, false), (.sei, .I, true), (.cld, .D, false),
      (.sed, .D, true), (.clv, .V, false)] →
    ∃ p', HasLine i 2 ∧ FlagsAfter s.p p' [(f, v)] ∧ exec i s = .next { s with
      p := p', cycles := baseCount s.params i.opcode }) ∧
  (∀ s : State, HasLine .nop 2 ∧ exec .nop s = .next { s with cycles := baseCount s.params 0xEA })

/-- R182: BRK pushes the address after the byte that follows it, high byte first, then the status with bits 4 and 5 set;
it sets I and goes to the word at `$FFFE`.
Open points: rests on the spec's own readings D5, D9 (log 21); the count is the parameter `BASE_CYCLES`, its default log
4. -/
def Obligations.BrkTakesException : Prop :=
  ∀ s : State, ∃ b p' : Byte, HasLine .brk 7 ∧
    FlagsAfter s.p b [(.B, true), (.U, true)] ∧ FlagsAfter s.p p' [(.I, true)] ∧
    exec .brk s = .next { s with
      ram := pushedFrame s (s.pc + 1) b, sp := s.sp - 3, p := p',
      pc := u16 (memRead s 0xFFFF).1 (memRead s 0xFFFE).1, cycles := baseCount s.params 0x00 }

/-- R183, R298: RTI pops the status (bits 4 and 5 forced to 0 and 1), then `PC`, with no adjustment.
Open points: rests on the spec's own readings D3, D9, D44 (log 21); the count is the parameter `BASE_CYCLES`, its
default log 4. -/
def Obligations.RtiReturns : Prop :=
  ∀ s : State, ∃ p' : Byte, HasLine .rti 6 ∧
    FlagsAfter (s.ram.read (0x100 + (s.sp + 1).toNat)) p' [(.B, false), (.U, true)] ∧
    exec .rti s = .next { s with
      sp := s.sp + 3, p := p',
      pc := u16 (s.ram.read (0x100 + (s.sp + 3).toNat)) (s.ram.read (0x100 + (s.sp + 2).toNat)),
      cycles := baseCount s.params 0x40 }

/-- R291, R292, R294, R295: a pending NMI is serviced first, then an unmasked IRQ; each clears its own latch, pushes
`PC` and the status with B clear and U set, sets I, and goes to its vector in 7 cycles. Otherwise the step runs one
instruction.
Open points: rests on the spec's own readings D4, D37, D38 (log 21). -/
def Obligations.InterruptService : Prop :=
  ∀ s : State,
    (s.nmiPending = true → ∃ b p' : Byte, FlagsAfter s.p b [(.B, false), (.U, true)] ∧ FlagsAfter s.p p' [(.I, true)] ∧
      cpuStep s = .next { s with
        nmiPending := false, ram := pushedFrame s s.pc b, sp := s.sp - 3, p := p',
        pc := u16 (memRead s 0xFFFB).1 (memRead s 0xFFFA).1, cycles := 7 }) ∧
    (s.nmiPending = false → s.irqPending = true → s.flag .I = false →
      ∃ b p' : Byte, FlagsAfter s.p b [(.B, false), (.U, true)] ∧ FlagsAfter s.p p' [(.I, true)] ∧
      cpuStep s = .next { s with
        irqPending := false, ram := pushedFrame s s.pc b, sp := s.sp - 3, p := p',
        pc := u16 (memRead s 0xFFFF).1 (memRead s 0xFFFE).1, cycles := 7 }) ∧
    (s.nmiPending = false → (s.irqPending = false ∨ s.flag .I = true) →
      cpuStep s = exec (instrOfBytes (fetchInstr s).1) (fetchInstr s).2)

/-- R295, R298, R182, R183: an RTI at once after an exception entry undoes it: `PC`, `SP` and every flag but B and U are
as before; after BRK the return address is past the skipped byte.
Open points: rests on the spec's own readings D3, D4, D5, D9, D38, D44 (log 21); the count is the parameter
`BASE_CYCLES`, its default log 4. -/
def Obligations.ReturnUndoesEntry : Prop :=
  ∀ s : State,
    (∃ p' : Byte, FlagsAfter s.p p' [(.B, false), (.U, true)] ∧ ∀ vector : Word,
      exec .rti (raiseInterrupt vector s) = .next { raiseInterrupt vector s with
        pc := s.pc, sp := s.sp, p := p', cycles := baseCount s.params 0x40 }) ∧
    (∃ (t : State) (p' : Byte), FlagsAfter s.p p' [(.B, false), (.U, true)] ∧ exec .brk s = .next t ∧
      exec .rti t = .next { t with pc := s.pc + 1, sp := s.sp, p := p', cycles := baseCount s.params 0x40 })

/-! ## Frames over all instructions -/

/-- R6, R18, R26, R27, R28, R29, R251, R281: no instruction changes an interrupt latch, the frame buffer, the button
mask, program ROM or any other constant of the cartridge, a parameter, or the sequencer's state.
Open points: rests on the spec's own readings D33 (log 21). -/
def Obligations.ExecLeavesTheRest : Prop :=
  ∀ (i : Instr) (s : State), ∃ t, exec i s = .next t ∧
    t.nmiPending = s.nmiPending ∧ t.irqPending = s.irqPending ∧ t.ppu.frameBuffer = s.ppu.frameBuffer ∧
    t.joypad.buttonMask = s.joypad.buttonMask ∧ t.cartridgeAttached = s.cartridgeAttached ∧
    t.cart = { s.cart with prgRAM := t.cart.prgRAM, chr := t.cart.chr } ∧
    (s.cart.hasCharacterRAM = false → t.cart.chr = s.cart.chr) ∧
    t.params = s.params ∧ t.seq = s.seq

/-- R10, R11, R12, R13, R16: the place of each flag in the status register; which instructions change which register and
which flag; every other instruction leaves it.
Open points: rests on the spec's own readings D1 (log 21). -/
def Obligations.RegisterAndFlagWriters : Prop :=
  (∀ (s : State) (f : Flag), s.flag f = flagOf s.p f ∧ flagOf s.p f = s.p.getLsbD (match f with
    | .C => 0 | .Z => 1 | .I => 2 | .D => 3 | .B => 4 | .U => 5 | .V => 6 | .N => 7)) ∧
  ∀ (i : Instr) (s : State), ∃ t, exec i s = .next t ∧
    (i.mnemonic ∉ accumulatorWriters → i.mode ≠ .acc → t.a = s.a) ∧
    (i.mnemonic ∉ xWriters → t.x = s.x) ∧
    (i.mnemonic ∉ yWriters → t.y = s.y) ∧
    (i.mnemonic ∉ spWriters → t.sp = s.sp) ∧
    (i.mnemonic ∉ pcWriters → t.pc = s.pc) ∧
    (∀ f : Flag, i.mnemonic ∉ flagWriters f → flagOf t.p f = flagOf s.p f)

/-- R17, R84, R85: an instruction stores at its effective address or at the stack bytes it pushes, computed in the state
it runs in, and changes no other byte of memory.
Open points: rests on the spec's own readings D7 (log 21). -/
def Obligations.InstructionsStoreOnlyThere : Prop :=
  ∀ (i : Instr) (s : State), ∃ t, exec i s = .next t ∧ StoresOnlyAt (storedAt i s) s t

/-- R16, R120, R14: the D, B and U flags never change a result: but for the instructions that push, load or write them,
an instruction does the same whatever they hold, and they keep what they hold.
Open points: rests on the spec's own readings D1, D3 (log 21). -/
def Obligations.UnusedFlagsAreInert : Prop :=
  ∀ (i : Instr) (s : State) (f : Flag) (v : Bool), f ∈ [.D, .B, .U] →
    i.mnemonic ∉ [.php, .brk, .plp, .rti, .sed, .cld] →
    ∃ t, exec i s = .next t ∧ exec i (s.setFlag f v) = .next (t.setFlag f v) ∧
      ∃ p' : Byte, FlagsAfter s.p p' [(f, v)] ∧ s.setFlag f v = { s with p := p' }

/-! ## Operands and the CPU bus -/

/-- R75 to R82, R85: the effective addresses in numbers, with their wraps; the byte `M` of a read instruction is the
immediate byte, or the data read at the effective address with all that this read does.
Open points: rests on the spec's own readings D8 (log 21). -/
def Obligations.EffectiveAddresses : Prop :=
  ∀ (s : State) (d : Byte) (w : Word),
    (effAddr (.zp d) s).toNat = d.toNat ∧
    (effAddr (.zpx d) s).toNat = (d.toNat + s.x.toNat) % 256 ∧
    (effAddr (.zpy d) s).toNat = (d.toNat + s.y.toNat) % 256 ∧
    effAddr (.abs w) s = w ∧
    (effAddr (.abx w) s).toNat = (w.toNat + s.x.toNat) % 65536 ∧
    (effAddr (.aby w) s).toNat = (w.toNat + s.y.toNat) % 65536 ∧
    (effAddr (.izx d) s).toNat =
      (s.ram.read ((d.toNat + s.x.toNat) % 256)).toNat + 256 * (s.ram.read ((d.toNat + s.x.toNat + 1) % 256)).toNat ∧
    (effAddr (.izy d) s).toNat =
      ((s.ram.read d.toNat).toNat + 256 * (s.ram.read ((d.toNat + 1) % 256)).toNat + s.y.toNat) % 65536 ∧
    readOperand (.imm d) s = (d, s) ∧
    ∀ m : MemMode, readOperand (.mem m) s = memRead s (effAddr m s)

/-- R41, R43 to R50: the byte the router returns and the device that answers, row by row.
Open points: rests on the spec's own readings D11, D12, D13, D14 (log 21). -/
def Obligations.RouterReads : Prop :=
  ∀ (s : State) (a : Word),
    (a.toNat ≤ 0x1FFF → memRead s a = (s.ram.read (a.toNat &&& 0x07FF), s)) ∧
    (0x2000 ≤ a.toNat → a.toNat ≤ 0x3FFF → memRead s a = ppuRegRead s (a.toNat &&& 7)) ∧
    (0x4000 ≤ a.toNat → a.toNat ≤ 0x4015 → memRead s a = (0x00, s)) ∧
    (a.toNat = 0x4016 → memRead s a = joypadRead s) ∧
    (a.toNat = 0x4017 → memRead s a = (0x40, s)) ∧
    (0x4018 ≤ a.toNat → a.toNat ≤ 0x5FFF → memRead s a = (0x00, s)) ∧
    (0x6000 ≤ a.toNat → a.toNat ≤ 0x7FFF → memRead s a = (s.cart.prgRAM.read (a.toNat - 0x6000), s)) ∧
    (0x8000 ≤ a.toNat → memRead s a = (s.cart.prgROM.read ((a.toNat - 0x8000) % s.cart.prgLength), s))

/-- R55: a read changes at most VBlank, the address latch, `vramAddress` and `readBuffer` (ports 2 and 7) and the
joypad's index (`$4016`); any other read changes nothing.
Open points: rests on what the spec derives or takes from general knowledge (log 21). -/
def Obligations.ReadSideEffects : Prop :=
  ∀ (s : State) (a : Word),
    OnlyReadEffects s (memRead s a).2 ∧
    (¬ IsPort 2 a → ¬ IsPort 7 a → a ≠ 0x4016 → (memRead s a).2 = s)

/-- R42, R43 to R50: what a write does, row by row.
Open points: rests on the spec's own readings D11, D12, D13, D14 (log 21). -/
def Obligations.RouterWrites : Prop :=
  ∀ (s : State) (a : Word) (v : Byte),
    (a.toNat ≤ 0x1FFF → memWrite s a v = { s with ram := s.ram.write (a.toNat &&& 0x07FF) v }) ∧
    (0x2000 ≤ a.toNat → a.toNat ≤ 0x3FFF → memWrite s a v = ppuRegWrite s (a.toNat &&& 7) v) ∧
    (0x4000 ≤ a.toNat → a.toNat ≤ 0x4013 → memWrite s a v = s) ∧
    (a.toNat = 0x4014 → memWrite s a v = oamDma v s) ∧
    (a.toNat = 0x4015 → memWrite s a v = s) ∧
    (a.toNat = 0x4016 → memWrite s a v = joypadWrite s v) ∧
    (0x4017 ≤ a.toNat → a.toNat ≤ 0x5FFF → memWrite s a v = s) ∧
    (0x6000 ≤ a.toNat → a.toNat ≤ 0x7FFF →
      memWrite s a v = { s with cart := { s.cart with prgRAM := s.cart.prgRAM.write (a.toNat - 0x6000) v } }) ∧
    (0x8000 ≤ a.toNat → memWrite s a v = s)

/-- R43, R49, R50, R56: memory is `$0000` to `$1FFF` and `$6000` to `$FFFF`; a byte of work RAM or program RAM reads
back at every one of its addresses, program ROM never changes, and a write changes no byte of memory at another place.
Open points: rests on the spec's own readings D12, D13 (log 21). -/
def Obligations.ReadAfterWrite : Prop :=
  (∀ a : Word, isMemory a = true ↔ a.toNat ≤ 0x1FFF ∨ 0x6000 ≤ a.toNat) ∧
  ∀ (s : State) (a b : Word) (v : Byte), isMemory b = true →
    (SameCell a b → a.toNat < 0x8000 → (memRead (memWrite s a v) b).1 = v) ∧
    (SameCell a b → 0x8000 ≤ a.toNat → (memRead (memWrite s a v) b).1 = (memRead s b).1) ∧
    (¬ SameCell a b → (memRead (memWrite s a v) b).1 = (memRead s b).1)

/-- R48: a write to `$4014` reads the 256 bytes of its page through the router in ascending order and stores byte `k` at
`(oamAddress + k) & 0xFF` as soon as it is read; all but OAM is as after the 256 reads. From a page without devices
nothing but OAM changes; from a PPU page the status bit 7 and the address latch are cleared and port 7 is read 32 times;
from page `$40` the joypad is read once. `oamAddress` stays.
Open points: rests on the spec's own readings D14, D20, D32 (log 21). -/
def Obligations.OamDmaCopiesPage : Prop :=
  ∀ (s : State) (page : Byte),
    memWrite s 0x4014 page = dmaAfter page s 256 ∧
    (∀ k < 256, (memWrite s 0x4014 page).ppu.oam.read ((s.ppu.oamAddress.toNat + k) % 256) =
      (memRead (dmaAfter page s k) (u16 page (BitVec.ofNat 8 k))).1) ∧
    memWrite s 0x4014 page = { readsAfter page s 256 with
      ppu := { (readsAfter page s 256).ppu with oam := (memWrite s 0x4014 page).ppu.oam } } ∧
    (page.toNat < 0x20 ∨ 0x41 ≤ page.toNat →
      memWrite s 0x4014 page = { s with ppu := { s.ppu with oam := (memWrite s 0x4014 page).ppu.oam } } ∧
      ∀ k < 256, (memWrite s 0x4014 page).ppu.oam.read ((s.ppu.oamAddress.toNat + k) % 256) =
        (memRead s (u16 page (BitVec.ofNat 8 k))).1) ∧
    (0x20 ≤ page.toNat → page.toNat < 0x40 →
      memWrite s 0x4014 page = { s with ppu := { s.ppu with
        status := s.ppu.status &&& 0x7F, addressLatch := false,
        vramAddress := s.ppu.vramAddress + 32 * vramIncrement s.ppu.control,
        readBuffer := (readsAfter page s 256).ppu.readBuffer, oam := (memWrite s 0x4014 page).ppu.oam } }) ∧
    (page.toNat = 0x40 →
      memWrite s 0x4014 page = { s with
        joypad := (joypadRead s).2.joypad, ppu := { s.ppu with oam := (memWrite s 0x4014 page).ppu.oam } })

/-! ## The PPU's ports and the video bus -/

/-- R191 to R193, R195, R197 to R199, R201, R202: what each port write does.
Open points: rests on the spec's own readings D15, D18, D19 (log 21). -/
def Obligations.PpuPortWrites : Prop :=
  ∀ (s : State) (v : Byte),
    ppuRegWrite s 0 v = { s with ppu := { s.ppu with control := v } } ∧
    ppuRegWrite s 1 v = { s with ppu := { s.ppu with mask := v } } ∧
    ppuRegWrite s 2 v = s ∧
    ppuRegWrite s 3 v = { s with ppu := { s.ppu with oamAddress := v } } ∧
    ppuRegWrite s 4 v = { s with ppu := { s.ppu with
      oam := s.ppu.oam.write s.ppu.oamAddress.toNat v, oamAddress := s.ppu.oamAddress + 1 } } ∧
    (s.ppu.addressLatch = false →
      ppuRegWrite s 5 v = { s with ppu := { s.ppu with scrollX := v, addressLatch := true } } ∧
      ∃ a : VideoAddr, ppuRegWrite s 6 v = { s with ppu := { s.ppu with vramAddress := a, addressLatch := true } } ∧
        a.toNat = (v.toNat &&& 0x3F) <<< 8 ||| (s.ppu.vramAddress.toNat &&& 0x00FF)) ∧
    (s.ppu.addressLatch = true →
      ppuRegWrite s 5 v = { s with ppu := { s.ppu with scrollY := v, addressLatch := false } } ∧
      ∃ a : VideoAddr, ppuRegWrite s 6 v = { s with ppu := { s.ppu with vramAddress := a, addressLatch := false } } ∧
        a.toNat = (s.ppu.vramAddress.toNat &&& 0x3F00) ||| v.toNat) ∧
    (∃ a : VideoAddr, a.toNat = (s.ppu.vramAddress.toNat + if s.ppu.control.getLsbD 2 then 32 else 1) % 0x4000 ∧
      ppuRegWrite s 7 v = { ppuWrite s s.ppu.vramAddress v with
        ppu := { (ppuWrite s s.ppu.vramAddress v).ppu with vramAddress := a } })

/-- R193, R194, R196, R200, R202: what each port read returns and does.
Open points: rests on the spec's own readings D15, D20 (log 21). -/
def Obligations.PpuPortReads : Prop :=
  ∀ s : State,
    ppuRegRead s 2 = (s.ppu.status,
      { s with ppu := { s.ppu with status := s.ppu.status &&& 0x7F, addressLatch := false } }) ∧
    ppuRegRead s 4 = (s.ppu.oam.read s.ppu.oamAddress.toNat, s) ∧
    (∀ r ∈ [0, 1, 3, 5, 6], ppuRegRead s r = (0x00, s)) ∧
    (∃ a : VideoAddr, a.toNat = (s.ppu.vramAddress.toNat + if s.ppu.control.getLsbD 2 then 32 else 1) % 0x4000 ∧
      (0x3F00 ≤ s.ppu.vramAddress.toNat → ppuRegRead s 7 =
        (s.ppu.paletteRAM.read (palIndex s.ppu.vramAddress.toNat), { s with ppu := { s.ppu with vramAddress := a } })) ∧
      (s.ppu.vramAddress.toNat < 0x3F00 → ppuRegRead s 7 =
        (s.ppu.readBuffer,
          { s with ppu := { s.ppu with vramAddress := a, readBuffer := ppuRead s s.ppu.vramAddress } })))

/-- R203, R204: the byte a video read returns, row by row; a video write stores that one byte of character RAM,
nametable RAM or palette RAM and changes nothing else of the machine, character ROM drops it whole; it reads back at
every address of that byte, and no other video byte changes. `$3000` to `$3EFF` are the nametable bytes of `$2000` to
`$2EFF`.
Open points: rests on the spec's own readings D20, D22 (log 21). -/
def Obligations.VideoReadAfterWrite : Prop :=
  (∀ (s : State) (a : VideoAddr),
    (a.toNat < 0x2000 → ppuRead s a = s.cart.chr.read a.toNat) ∧
    (0x2000 ≤ a.toNat → a.toNat < 0x3F00 → ppuRead s a = s.ppu.nameTableRAM.read (ntIndex s.cart.mirroring a.toNat)) ∧
    (0x3F00 ≤ a.toNat → ppuRead s a = s.ppu.paletteRAM.read (palIndex a.toNat))) ∧
  (∀ (mode : Mirroring) (a : Nat), 0x3000 ≤ a → a < 0x3F00 → ntIndex mode a = ntIndex mode (a - 0x1000)) ∧
  (∀ (s : State) (a : VideoAddr) (v : Byte), ∃ m : Memory,
    (a.toNat < 0x2000 → s.cart.hasCharacterRAM = true →
      ppuWrite s a v = { s with cart := { s.cart with chr := m } } ∧
      ∀ k : Nat, m.read k = if k = a.toNat then v else s.cart.chr.read k) ∧
    (a.toNat < 0x2000 → s.cart.hasCharacterRAM = false → ppuWrite s a v = s) ∧
    (0x2000 ≤ a.toNat → a.toNat < 0x3F00 →
      ppuWrite s a v = { s with ppu := { s.ppu with nameTableRAM := m } } ∧
      ∀ k : Nat, m.read k = if k = ntIndex s.cart.mirroring a.toNat then v else s.ppu.nameTableRAM.read k) ∧
    (0x3F00 ≤ a.toNat →
      ppuWrite s a v = { s with ppu := { s.ppu with paletteRAM := m } } ∧
      ∀ k : Nat, m.read k = if k = palIndex a.toNat then v else s.ppu.paletteRAM.read k)) ∧
  ∀ (s : State) (a b : VideoAddr) (v : Byte),
    (SameVideoCell s.cart.mirroring a b → VideoWritable s a → ppuRead (ppuWrite s a v) b = v) ∧
    (¬ SameVideoCell s.cart.mirroring a b ∨ ¬ VideoWritable s a → ppuRead (ppuWrite s a v) b = ppuRead s b)

/-- R205: `NtIndex` of the 4 KiB logical nametable space, `$2000` to `$2FFF`, by the bits of its rule, and which logical
pages share storage under each mode (`$3000` to `$3EFF`: `Obligations.VideoReadAfterWrite`). -/
def Obligations.NametableMirroring : Prop :=
  (∀ (mode : Mirroring) (a : Nat), 0x2000 ≤ a → a < 0x3000 →
    ntIndex mode a < 2048 ∧
    ntIndex mode a = (match mode with
      | .vertical => ((((a - 0x2000) &&& 0x0FFF) >>> 10) &&& 1) * 1024 + ((a - 0x2000) &&& 0x03FF)
      | .horizontal => (((((a - 0x2000) &&& 0x0FFF) >>> 10) >>> 1) &&& 1) * 1024 + ((a - 0x2000) &&& 0x03FF)
      | .fourScreen => ((((a - 0x2000) &&& 0x0FFF) >>> 10) &&& 1) * 1024 + ((a - 0x2000) &&& 0x03FF))) ∧
  (∀ off < 0x400,
    ntIndex .vertical (0x2000 + off) = ntIndex .vertical (0x2800 + off) ∧
    ntIndex .vertical (0x2400 + off) = ntIndex .vertical (0x2C00 + off) ∧
    ntIndex .vertical (0x2000 + off) ≠ ntIndex .vertical (0x2400 + off) ∧
    ntIndex .horizontal (0x2000 + off) = ntIndex .horizontal (0x2400 + off) ∧
    ntIndex .horizontal (0x2800 + off) = ntIndex .horizontal (0x2C00 + off) ∧
    ntIndex .horizontal (0x2000 + off) ≠ ntIndex .horizontal (0x2800 + off)) ∧
  (∀ a : Nat, 0x2000 ≤ a → a < 0x3000 → ntIndex .fourScreen a = ntIndex .vertical a)

/-- R206: `PalIndex` by the bits of its rule: 0 to 31, never 16, 20, 24 or 28, and the four aliases. A video access from
`$3F00` on reads or writes the palette byte of that index, and never bytes 16, 20, 24 and 28.
Open points: rests on the spec's own readings D20 (log 21). -/
def Obligations.PaletteAliases : Prop :=
  (∀ a : Nat, 0x3F00 ≤ a → a ≤ 0x3FFF →
    palIndex a < 32 ∧ palIndex a ≠ 16 ∧ palIndex a ≠ 20 ∧ palIndex a ≠ 24 ∧ palIndex a ≠ 28 ∧
    ((a &&& 0x1F) &&& 0x13 = 0x10 → palIndex a = (a &&& 0x0F)) ∧
    ((a &&& 0x1F) &&& 0x13 ≠ 0x10 → palIndex a = (a &&& 0x1F))) ∧
  (∀ k ∈ [0x0, 0x4, 0x8, 0xC], palIndex (0x3F10 + k) = palIndex (0x3F00 + k)) ∧
  (∀ (s : State) (a : VideoAddr) (v : Byte), 0x3F00 ≤ a.toNat →
    ppuRead s a = s.ppu.paletteRAM.read (palIndex a.toNat) ∧
    ppuWrite s a v = { s with ppu := { s.ppu with paletteRAM := s.ppu.paletteRAM.write (palIndex a.toNat) v } } ∧
    ∀ k ∈ [16, 20, 24, 28], (ppuWrite s a v).ppu.paletteRAM.read k = s.ppu.paletteRAM.read k)

/-! ## The joypad -/

/-- R250, R252, R253, R335: a joypad write and a joypad read, with all they leave unchanged; after writing 1 then 0 to
`$4016`, the first eight reads give the button bits in order and every later read gives `$41`; while the strobe is high
every read gives button A.
Open points: rests on the spec's own readings D32 (log 21). -/
def Obligations.JoypadAccess : Prop :=
  (∀ (s : State) (v : Byte),
    (v.toNat % 2 = 1 → joypadWrite s v = { s with joypad := { s.joypad with strobe := true, shiftIndex := 0 } }) ∧
    (v.toNat % 2 = 0 → joypadWrite s v = { s with joypad := { s.joypad with strobe := false } }) ∧
    (∃ k : Fin 9, joypadRead s = (
        if s.joypad.shiftIndex.val < 8 ∧ s.joypad.buttonMask.getLsbD s.joypad.shiftIndex.val = false then 0x40 else 0x41,
        { s with joypad := { s.joypad with shiftIndex := k } }) ∧
      (s.joypad.strobe = false → s.joypad.shiftIndex.val < 8 → k.val = s.joypad.shiftIndex.val + 1) ∧
      (s.joypad.strobe = true ∨ s.joypad.shiftIndex.val = 8 → k = s.joypad.shiftIndex))) ∧
  (∀ (s : State) (k : Nat),
    (memRead ((fun t => (memRead t 0x4016).2)^[k] (memWrite (memWrite s 0x4016 1) 0x4016 0)) 0x4016).1 =
      (if k < 8 ∧ s.joypad.buttonMask.getLsbD k = false then 0x40 else 0x41) ∧
    (memRead ((fun t => (memRead t 0x4016).2)^[k] (memWrite s 0x4016 1)) 0x4016).1 =
      (if s.joypad.buttonMask.getLsbD 0 = false then 0x40 else 0x41))

/-- R251: `setButton` sets or clears its own bit of the button mask, the other seven bits and the rest of the machine
unchanged, whatever else is held. -/
def Obligations.ButtonEvents : Prop :=
  ∀ (k : Fin 8) (pressed : Bool) (s : State),
    ∃ mask : Byte, setButton k pressed s = { s with joypad := { s.joypad with buttonMask := mask } } ∧
      mask.getLsbD k.val = pressed ∧ ∀ j < 8, j ≠ k.val → mask.getLsbD j = s.joypad.buttonMask.getLsbD j

/-! ## The renderer -/

/-- R220, R236: rendering writes the 61,440 elements of `frameBuffer` and nothing else, and pixel `(x, y)` then shows
the low six bits of its rendered palette byte through the system palette.
Open points: rests on the spec's own readings D26 (log 21); the 6-bit index is log 5. -/
def Obligations.RenderWritesFrame : Prop :=
  ∀ s : State,
    renderFrame s = { s with ppu := { s.ppu with frameBuffer := (renderFrame s).ppu.frameBuffer } } ∧
    (renderFrame s).ppu.frameBuffer.length = 61440 ∧
    ∀ (x y : Nat), x < 256 → y < 240 →
      shownPixel (renderFrame s) x y = BitVec.ofNat 6 ((renderedByte s x y).toNat &&& 0x3F) ∧
      shownColour (renderFrame s) x y = Config.systemPalette (BitVec.ofNat 6 ((renderedByte s x y).toNat &&& 0x3F))

/-- R221, R223 to R227: the background byte of a pixel, by the bit arithmetic of the rules.
Open points: rests on the spec's own readings D23, D24, D25 (log 21). -/
def Obligations.BackgroundPixel : Prop :=
  ∀ (s : State) (x y : Nat),
    let control := s.ppu.control.toNat
    let sx := x + s.ppu.scrollX.toNat
    let sy := y + s.ppu.scrollY.toNat
    let ntx := ((control &&& 1) + (sx >>> 8)) &&& 1
    let nty := (((control >>> 1) &&& 1) + sy / 240) &&& 1
    let px := sx &&& 0xFF
    let py := sy % 240
    let base := 0x2000 + ((nty <<< 1) ||| ntx) * 0x400
    let tx := px >>> 3
    let ty := py >>> 3
    let tile := (ppuRead s (BitVec.ofNat 14 (base + ty * 32 + tx))).toNat
    let attr := (ppuRead s (BitVec.ofNat 14 (base + 0x3C0 + (ty >>> 2) * 8 + (tx >>> 2)))).toNat
    let shift := ((ty &&& 2) <<< 1) ||| (tx &&& 2)
    let palq := (attr >>> shift) &&& 3
    let pt := if (control >>> 4) &&& 1 = 1 then 0x1000 else 0x0000
    let row := py &&& 7
    let p0 := (s.cart.chr.read (pt + tile * 16 + row)).toNat
    let p1 := (s.cart.chr.read (pt + tile * 16 + row + 8)).toNat
    let bit := 7 - (px &&& 7)
    let ci := (((p1 >>> bit) &&& 1) <<< 1) ||| ((p0 >>> bit) &&& 1)
    (s.params.maskGatesRender = false ∨ s.ppu.mask.getLsbD 3 = true →
      bgPass s x y = s.ppu.paletteRAM.read (if ci = 0 then 0 else palIndex (0x3F00 + palq * 4 + ci))) ∧
    (s.params.maskGatesRender = true → s.ppu.mask.getLsbD 3 = false → bgPass s x y = s.ppu.paletteRAM.read 0)

/-- R230 to R235: what row `r`, column `c` of sprite `i` writes, by the bit arithmetic of the rules.
Open points: rests on the spec's own readings D28, D29, D30, D31 (log 21). -/
def Obligations.SpritePixelColour : Prop :=
  ∀ (s : State) (i r c : Nat), r < spriteHeight s → c < 8 →
    let tile := (s.ppu.oam.read (4 * i + 1)).toNat
    let attr := (s.ppu.oam.read (4 * i + 2)).toNat
    let h := if (s.ppu.control.toNat >>> 5) &&& 1 = 1 then 16 else 8
    let rr := if (attr >>> 7) &&& 1 = 1 then h - 1 - r else r
    let pt := if h = 8 then (if (s.ppu.control.toNat >>> 3) &&& 1 = 1 then 0x1000 else 0x0000)
      else (if tile &&& 1 = 1 then 0x1000 else 0x0000)
    let t := if h = 8 then tile else ((tile &&& 0xFE) + (rr >>> 3)) &&& 0xFF
    let p0 := (s.cart.chr.read (pt + t * 16 + (rr &&& 7))).toNat
    let p1 := (s.cart.chr.read (pt + t * 16 + (rr &&& 7) + 8)).toNat
    let cc := if (attr >>> 6) &&& 1 = 1 then 7 - c else c
    let bit := 7 - cc
    let ci := (((p1 >>> bit) &&& 1) <<< 1) ||| ((p0 >>> bit) &&& 1)
    (ci = 0 ∨ (attr >>> 5) &&& 1 = 1 → spriteDraws s i r c = none) ∧
    (ci ≠ 0 → (attr >>> 5) &&& 1 = 0 →
      spriteDraws s i r c = some (s.ppu.paletteRAM.read (palIndex (0x3F10 + (attr &&& 3) * 4 + ci))))

/-- R231, R233, R240, R229, R221: a sprite covers the rows from its OAM byte 0 plus the offset parameter and the columns
from its OAM byte 3; among the sprites that write a pixel the lowest index wins; where none does, or the mask gate is
closed, the background shows.
Open points: rests on the spec's own readings D23, D27, D31 (log 21). -/
def Obligations.LowestSpriteWins : Prop :=
  (∀ (s : State) (i x y : Nat),
    let top := (s.ppu.oam.read (4 * i)).toNat + s.params.spriteYOffset.val
    let left := (s.ppu.oam.read (4 * i + 3)).toNat
    let height := if s.ppu.control.getLsbD 5 then 16 else 8
    spritePixel s i x y =
      if top ≤ y ∧ y < top + height ∧ left ≤ x ∧ x < left + 8 then spriteDraws s i (y - top) (x - left) else none) ∧
  ∀ (s : State) (x y : Nat) (bg : Byte),
    (s.params.maskGatesRender = true → s.ppu.mask.getLsbD 4 = false → spritePass s x y bg = bg) ∧
    (s.params.maskGatesRender = false ∨ s.ppu.mask.getLsbD 4 = true →
      ((∀ i < 64, spritePixel s i x y = none) → spritePass s x y bg = bg) ∧
      (∀ (i : Nat) (v : Byte), i < 64 → spritePixel s i x y = some v → (∀ j < i, spritePixel s j x y = none) →
        spritePass s x y bg = v))

/-- R229 to R235, R221: rendering pixel by pixel agrees with the spec's loops over a frame: the background pass, then
the sprite writes of the loops in order, each on top of the last; where the mask gate shuts the sprites out, the
background pass alone.
Open points: rests on the spec's own readings D23, D27, D30, D31 (log 21); pixel by pixel is log 15. -/
def Obligations.SpritePassRefinesLoops : Prop :=
  ∀ s : State,
    (s.params.maskGatesRender = false ∨ s.ppu.mask.getLsbD 4 = true →
      (∀ w ∈ spriteWrites s, w.1 < 256 ∧ w.2.1 < 240) ∧
      ∀ (x y : Nat), x < 256 → y < 240 →
        renderedByte s x y = ((spriteWrites s).foldl (fun frame w => Function.update frame (w.1, w.2.1) w.2.2)
          (fun q : Nat × Nat => bgPass s q.1 q.2)) (x, y)) ∧
    (s.params.maskGatesRender = true → s.ppu.mask.getLsbD 4 = false →
      ∀ (x y : Nat), x < 256 → y < 240 → renderedByte s x y = bgPass s x y)

/-! ## The frame sequencer -/

/-- R281, log 1: with positive base cycle counts (log 4), steps of the machine from a frame boundary reach, after some
number of them, exactly the state that `runOneFrame()` as one operation gives, and every state between is inside the
frame.
Open points: rests on the spec's own readings D9, D33, D37, D48 (log 21); the step granularity is log 1, positive base
counts log 4. -/
def Obligations.StepsMakeOneFrame : Prop :=
  ∀ s : State, s.cartridgeAttached = true → s.seq = .idle → 0 < s.params.cyclesPerFrame →
    (∀ op, 0 < baseCount s.params op) →
    ∃ (n : Nat) (t : State), 0 < n ∧ runOneFrame s = .next t ∧ Sys2Proof.core.run n s = .next t ∧ t.seq = .idle ∧
      ∀ k, 0 < k → k < n → ∃ u : State, Sys2Proof.core.run k s = .next u ∧ u.seq.running = true

/-- R281, R282, R291, R207: what happens at a frame's start and end, and nothing else: VBlank cleared before the first
step; after the last, the frame rendered, VBlank set, the NMI requested if `control[7]` is set.
Open points: rests on the spec's own readings D33, D46 (log 21); the step granularity is log 1. -/
def Obligations.FrameBoundary : Prop :=
  ∀ s : State,
    (s.seq.running = true → startFrame s = s) ∧
    (s.seq.running = false → startFrame s = { s with
      ppu := { s.ppu with status := s.ppu.status &&& 0x7F }, seq := { running := true, acc := 0 } }) ∧
    (s.seq.acc + s.cycles < s.params.cyclesPerFrame → closeStep s = { s with
      seq := { running := true, acc := s.seq.acc + s.cycles } }) ∧
    (s.params.cyclesPerFrame ≤ s.seq.acc + s.cycles → closeStep s = { s with
      ppu := { s.ppu with
        status := s.ppu.status ||| 0x80, frameBuffer := (renderFrame s).ppu.frameBuffer },
      nmiPending := s.nmiPending || s.ppu.control.getLsbD 7, seq := .idle })

/-- R330: no program ever sees VBlank: at the start of every step of a run the status is 0, every read of port 2 then
returns 0, and no instruction raises the bit.
Open points: rests on the spec's own readings D17, D33 (log 21). -/
def Obligations.VBlankNeverSeen : Prop :=
  (∀ s : State, s.Inv → (startFrame s).ppu.status = 0 ∧
    ∀ a : Word, IsPort 2 a → (memRead (startFrame s) a).1 = 0) ∧
  (∀ (i : Instr) (s : State), s.ppu.status = 0 → ∃ t, exec i s = .next t ∧ t.ppu.status = 0) ∧
  (∀ s : State, s.ppu.status = 0 → ∃ t, cpuStep s = .next t ∧ t.ppu.status = 0)

/-! ## Loading and reset -/

/-- R264, R266, R267, R269: which images a load refuses, with which error, in which order; a refused load changes
nothing.
Open points: rests on the spec's own readings D35, D36 (log 21). -/
def Obligations.LoadRefusals : Prop :=
  ∀ (img : List Byte) (s : State),
    let offset := if (img.getD 6 0).getLsbD 2 then 528 else 16
    let header := 16 ≤ img.length ∧ img.take 4 = [0x4E, 0x45, 0x53, 0x1A]
    let mapper := (img.getD 7 0 &&& 0xF0#8) ||| (img.getD 6 0 >>> 4)
    (¬ header → loadRom img s = (.failed .invalidHeader, s)) ∧
    (header → mapper ≠ 0 → loadRom img s = (.failed .unsupportedMapper, s)) ∧
    (header → mapper = 0 → img.getD 4 0 = 0 → loadRom img s = (.failed .invalidHeader, s)) ∧
    (header → mapper = 0 → img.getD 4 0 ≠ 0 →
      img.length < offset + (img.getD 4 0).toNat * 16384 + (img.getD 5 0).toNat * 8192 →
      loadRom img s = (.failed .truncatedFile, s))

/-- R265, R268, R320, R30 to R34: an accepted image becomes the cartridge, byte by byte, and the machine is reset: `PC`
from the new reset vector, registers from the parameters, memories and latches clear; the button mask, the frame buffer
and the parameters stay.
Open points: rests on the spec's own readings D2, D13, D35, D36, D40, D47 (log 21). -/
def Obligations.LoadBuildsAndResets : Prop :=
  ∀ (img : List Byte) (s : State),
    let offset := if (img.getD 6 0).getLsbD 2 then 528 else 16
    let size := (img.getD 4 0).toNat * 16384
    16 ≤ img.length → img.take 4 = [0x4E, 0x45, 0x53, 0x1A] →
    (img.getD 7 0 &&& 0xF0#8) ||| (img.getD 6 0 >>> 4) = 0 → img.getD 4 0 ≠ 0 →
    offset + size + (img.getD 5 0).toNat * 8192 ≤ img.length →
    ∃ (info : LoadInfo) (c : Cartridge),
      loadRom img s = (.loaded info, { s with
        a := s.params.resetA, x := s.params.resetX, y := s.params.resetY, sp := s.params.resetSP, p := s.params.resetP,
        pc := u16 (c.prgROM.read ((0xFFFD - 0x8000) % size)) (c.prgROM.read ((0xFFFC - 0x8000) % size)),
        nmiPending := false, irqPending := false, ram := [],
        ppu := { s.ppu with
          control := 0, mask := 0, status := 0, oamAddress := 0, scrollX := 0, scrollY := 0, addressLatch := false,
          vramAddress := 0, readBuffer := 0, nameTableRAM := [], paletteRAM := [], oam := [] },
        joypad := { s.joypad with shiftIndex := 0, strobe := false },
        cartridgeAttached := true, cart := c }) ∧
      c.prgLength = size ∧
      (∀ k < size, c.prgROM.read k = img.getD (offset + k) 0) ∧
      (∀ k < 8192, c.chr.read k = if img.getD 5 0 = 0 then 0 else img.getD (offset + size + k) 0) ∧
      c.prgRAM = [] ∧ c.hasCharacterRAM = decide (img.getD 5 0 = 0) ∧ c.mapperId = 0 ∧
      c.mirroring = (if (img.getD 6 0).getLsbD 3 then .fourScreen
        else if (img.getD 6 0).getLsbD 0 then .horizontal else .vertical) ∧
      info.programSize = size ∧ info.mapperId = 0 ∧
      (img.getD 5 0 = 1 → info.characterSize = 8192)

/-- R321: the state after reset, whole. The register values are the parameters' defaults (log 3), the cartridge is the
blank one and the button mask the power-on one of log 7, a pixel is a free value (log 6), and `seq` and `cycles` are the
model's own fields (log 1, log 12): those clauses are the model's choice.
Open points: rests on the spec's own readings D2, D13, D40 (log 21); the register values are log 3, the cartridge and
the button mask log 7. -/
def Obligations.ResetState : Prop :=
  State.reset.a = 0 ∧ State.reset.x = 0 ∧ State.reset.y = 0 ∧ State.reset.sp = 0xFD ∧ State.reset.p = 0x24 ∧
  State.reset.flag .I = true ∧
  State.reset.pc = u16 (memRead State.reset 0xFFFD).1 (memRead State.reset 0xFFFC).1 ∧
  State.reset.nmiPending = false ∧ State.reset.irqPending = false ∧
  (∀ k : Nat, State.reset.ram.read k = 0 ∧ State.reset.cart.prgRAM.read k = 0 ∧ State.reset.cart.chr.read k = 0 ∧
    State.reset.ppu.nameTableRAM.read k = 0 ∧ State.reset.ppu.paletteRAM.read k = 0 ∧ State.reset.ppu.oam.read k = 0) ∧
  (∀ a : Word, a.toNat < 0x8000 → a ≠ 0x4016 → a ≠ 0x4017 → (memRead State.reset a).1 = 0) ∧
  (∀ a : VideoAddr, ppuRead State.reset a = 0) ∧
  State.reset.ppu.control = 0 ∧ State.reset.ppu.mask = 0 ∧ State.reset.ppu.status = 0 ∧
  State.reset.ppu.oamAddress = 0 ∧ State.reset.ppu.scrollX = 0 ∧ State.reset.ppu.scrollY = 0 ∧
  State.reset.ppu.addressLatch = false ∧ State.reset.ppu.vramAddress = 0 ∧ State.reset.ppu.readBuffer = 0 ∧
  vramIncrement State.reset.ppu.control = 1 ∧ spriteHeight State.reset = 8 ∧ bgTable State.reset = 0x0000 ∧
  (∀ x y : Nat, shownPixel State.reset x y = Config.powerOnPixel (y * 256 + x)) ∧
  State.reset.joypad.buttonMask = 0 ∧ State.reset.joypad.shiftIndex = 0 ∧ State.reset.joypad.strobe = false ∧
  State.reset.cartridgeAttached = true ∧ State.reset.cart.hasCharacterRAM = true ∧ State.reset.cart.mapperId = 0 ∧
  State.reset.cart.mirroring = .vertical ∧ State.reset.cart.prgLength = 16384 ∧
  (∀ k : Nat, State.reset.cart.prgROM.read k = 0) ∧
  State.reset.seq = .idle ∧ State.reset.cycles = 0 ∧ State.reset.params = defaultParams

/-- The invariant holds after reset (R30 to R34).
Open points: rests on the spec's own readings D2, D13, D40 (log 21). -/
def Obligations.ResetMeetsInv : Prop :=
  State.reset.Inv

/-- R14, R20, R24, R25, R28, R206, R281, R330: from every state that meets the invariant, a step answers a state that
meets it: canonical memories of the spec's sizes, aliased palette bytes never written, the status register's forced
bits, VBlank hidden while a frame runs, the cycle accumulator below the budget.
Open points: rests on the spec's own readings D3, D17, D20, D33, D46 (log 21). -/
def Obligations.StepKeepsInv : Prop :=
  ∀ s : State, s.Inv → Safe (step s)

/-- R251, R269, R283, R293: what the events do. A button event between two frames is `setButton`
(`Obligations.ButtonEvents`) and a load is `loadRom`, and within a frame there is neither; an IRQ event, where
`IRQ_SOURCE` is not empty, sets `irqPending` and changes nothing else, at any time, and elsewhere there is none.
Whatever the host or an IRQ source does keeps the invariant.
Open points: rests on the spec's own readings D10, D45 (log 21); when an event may happen is log 14, `running` log 1. -/
def Obligations.HostEventsKeepInv : Prop :=
  (∀ (k : Fin 8) (pressed : Bool) (s : State),
    (s.seq.running = false → hostEvent (.button k pressed) s = some (.nothing, setButton k pressed s)) ∧
    (s.seq.running = true → hostEvent (.button k pressed) s = none)) ∧
  (∀ (img : List Byte) (s : State),
    (s.seq.running = false → hostEvent (.load img) s = some (loadRom img s)) ∧
    (s.seq.running = true → hostEvent (.load img) s = none)) ∧
  (∀ s : State,
    (s.params.irqSource = true → hostEvent .irq s = some (.nothing, { s with irqPending := true })) ∧
    (s.params.irqSource = false → hostEvent .irq s = none)) ∧
  ∀ (e : HostEvent) (s t : State) (ans : HostAnswer), s.Inv → hostEvent e s = some (ans, t) → t.Inv
end

