-- ==== Sys2Proof/Laws/Flags.lean ====
section
/-!
SUPPORT. The laws of the status register: a flag after every flag computation, and that the flags determine the byte.
-/

namespace Sys2Proof.Laws

open Sys2Proof.Machine

/-! ## One flag at a time -/

/-- Reading a flag after writing one. -/
theorem flagOf_putFlag (p : Byte) (f g : Flag) (v : Bool) :
    flagOf (putFlag p f v) g = if f = g then v else flagOf p g := by
  cases f <;> cases g <;> cases v <;> simp [flagOf, putFlag, Flag.bit, Flag.mask]

@[simp] theorem flagOf_putFlag_same (p : Byte) (f : Flag) (v : Bool) : flagOf (putFlag p f v) f = v := by
  simp [flagOf_putFlag]

/-- The eight flags are the byte. -/
theorem eq_of_flags {p q : Byte} (h : ∀ f, flagOf p f = flagOf q f) : p = q := by
  apply BitVec.eq_of_getLsbD_eq
  intro i hi
  have h0 := h .C; have h1 := h .Z; have h2 := h .I; have h3 := h .D
  have h4 := h .B; have h5 := h .U; have h6 := h .V; have h7 := h .N
  simp only [flagOf, Flag.bit] at h0 h1 h2 h3 h4 h5 h6 h7
  rcases i with _ | _ | _ | _ | _ | _ | _ | _ | n <;> first | assumption | omega

@[simp] theorem flag_setP (s : State) (p : Byte) (f : Flag) : (s.setP p).flag f = flagOf p f := rfl

theorem flag_def (s : State) (f : Flag) : s.flag f = flagOf s.p f := rfl

theorem flag_setFlag (s : State) (f g : Flag) (v : Bool) :
    (s.setFlag f v).flag g = if f = g then v else s.flag g := flagOf_putFlag s.p f g v

/-- Replacing two different flags in either order. -/
theorem putFlag_comm (p : Byte) {f g : Flag} (h : f ≠ g) (v w : Bool) :
    putFlag (putFlag p f v) g w = putFlag (putFlag p g w) f v := by
  apply eq_of_flags
  intro k
  simp only [flagOf_putFlag]
  by_cases hf : f = k <;> by_cases hg : g = k <;> simp_all

/-! ## The flag computations -/

theorem flagOf_znStatus (p v : Byte) (f : Flag) :
    flagOf (znStatus p v) f = if f = .Z then decide (v = 0) else if f = .N then v.msb else flagOf p f := by
  unfold znStatus
  rw [flagOf_putFlag, flagOf_putFlag]
  cases f <;> simp

theorem flagOf_adcStatus (p a m : Byte) (f : Flag) :
    flagOf (adcStatus p a m) f =
      match f with
      | .C => decide (0xFF < adcSum a m (flagOf p .C))
      | .Z => decide (adcResult a m (flagOf p .C) = 0)
      | .V => decide ((~~~(a ^^^ m)) &&& (a ^^^ adcResult a m (flagOf p .C)) &&& 0x80 ≠ 0)
      | .N => (adcResult a m (flagOf p .C)).msb
      | g => flagOf p g := by
  unfold adcStatus
  rw [flagOf_znStatus]
  cases f <;> simp [flagOf_putFlag]

theorem flagOf_compareStatus (p reg m : Byte) (f : Flag) :
    flagOf (compareStatus p reg m) f =
      match f with
      | .C => decide (m.toNat ≤ reg.toNat)
      | .Z => decide (reg - m = 0)
      | .N => (reg - m).msb
      | g => flagOf p g := by
  unfold compareStatus
  rw [flagOf_znStatus]
  cases f <;> simp [flagOf_putFlag]

theorem flagOf_bitStatus (p a m : Byte) (f : Flag) :
    flagOf (bitStatus p a m) f =
      match f with
      | .Z => decide (a &&& m = 0)
      | .V => m.getLsbD 6
      | .N => m.getLsbD 7
      | g => flagOf p g := by
  unfold bitStatus
  cases f <;> simp [flagOf_putFlag]

theorem flagOf_shiftStatus (p : Byte) (r : Byte × Bool) (f : Flag) :
    flagOf (shiftStatus p r) f =
      match f with
      | .C => r.2
      | .Z => decide (r.1 = 0)
      | .N => r.1.msb
      | g => flagOf p g := by
  unfold shiftStatus
  rw [flagOf_znStatus]
  cases f <;> simp [flagOf_putFlag]

theorem flagOf_interruptStatus (p : Byte) (f : Flag) :
    flagOf (interruptStatus p) f = match f with | .B => false | .U => true | g => flagOf p g := by
  cases f <;> simp [flagOf, interruptStatus, Flag.bit]

theorem flagOf_softwareStatus (p : Byte) (f : Flag) :
    flagOf (softwareStatus p) f = match f with | .B => true | .U => true | g => flagOf p g := by
  cases f <;> simp [flagOf, softwareStatus, Flag.bit]

theorem flagOf_pulledStatus (v : Byte) (f : Flag) :
    flagOf (pulledStatus v) f = match f with | .B => false | .U => true | g => flagOf v g := by
  cases f <;> simp [flagOf, pulledStatus, Flag.bit]

/-! ## The same as `FlagsAfter` -/

theorem flagsAfter_znStatus (p v : Byte) : FlagsAfter p (znStatus p v) (zn v) := by
  intro f; rw [flagOf_znStatus]; cases f <;> rfl

theorem flagsAfter_shiftStatus (p : Byte) (r : Byte × Bool) : FlagsAfter p (shiftStatus p r) ((.C, r.2) :: zn r.1) := by
  intro f; rw [flagOf_shiftStatus]; cases f <;> rfl

theorem flagsAfter_interruptStatus (p : Byte) : FlagsAfter p (interruptStatus p) [(.B, false), (.U, true)] := by
  intro f; rw [flagOf_interruptStatus]; cases f <;> rfl

theorem flagsAfter_softwareStatus (p : Byte) : FlagsAfter p (softwareStatus p) [(.B, true), (.U, true)] := by
  intro f; rw [flagOf_softwareStatus]; cases f <;> rfl

theorem flagsAfter_pulledStatus (p : Byte) : FlagsAfter p (pulledStatus p) [(.B, false), (.U, true)] := by
  intro f; rw [flagOf_pulledStatus]; cases f <;> rfl

theorem flagsAfter_putFlag (p : Byte) (f : Flag) (v : Bool) : FlagsAfter p (putFlag p f v) [(f, v)] := by
  intro g; rw [flagOf_putFlag]; cases f <;> cases g <;> rfl

/-- A pulled byte's forced bits hide what an entry forced, so the status survives entry and return. -/
theorem pulledStatus_interruptStatus (p : Byte) : pulledStatus (interruptStatus p) = pulledStatus p := by
  apply eq_of_flags; intro f
  rw [flagOf_pulledStatus, flagOf_pulledStatus]; cases f <;> simp [flagOf_interruptStatus]

theorem pulledStatus_softwareStatus (p : Byte) : pulledStatus (softwareStatus p) = pulledStatus p := by
  apply eq_of_flags; intro f
  rw [flagOf_pulledStatus, flagOf_pulledStatus]; cases f <;> simp [flagOf_softwareStatus]

end Sys2Proof.Laws
end

