-- ==== Sys2Proof/Laws/Memory.lean ====
section
/-!
SUPPORT. The laws of canonical memories: a read after a write, and that every operation keeps the canonical form.
-/

namespace Sys2Proof.Laws

open Sys2Proof.Machine

/-! ## Reads -/

@[simp] theorem read_nil (k : Nat) : Memory.read [] k = 0 := rfl

theorem read_cons (a : Nat) (b : Byte) (m : Memory) (k : Nat) :
    Memory.read ((a, b) :: m) k = if a = k then b else Memory.read m k := rfl

theorem read_erase (m : Memory) (k j : Nat) :
    (m.erase k).read j = if k = j then Memory.unlisted else m.read j := by
  induction m with
  | nil => simp [Memory.erase, Memory.read, Memory.unlisted]
  | cons c m ih =>
    obtain ⟨a, b⟩ := c
    by_cases h : a = k
    · subst h
      simp only [Memory.erase, if_true, read_cons, ih]
      split <;> rfl
    · simp only [Memory.erase, h, if_false, read_cons, ih]
      by_cases h' : a = j
      · rw [if_pos h', if_neg (by omega), if_pos h']
      · rw [if_neg h', if_neg h']

theorem read_insert (m : Memory) (k j : Nat) (v : Byte) (hk : ∀ c ∈ m, c.1 ≠ k) :
    (m.insert k v).read j = if k = j then v else m.read j := by
  induction m with
  | nil => rfl
  | cons c m ih =>
    obtain ⟨a, b⟩ := c
    have ha : a ≠ k := hk (a, b) (List.mem_cons_self ..)
    by_cases h : k < a
    · simp only [Memory.insert, h, if_true, read_cons]
    · simp only [Memory.insert, h, if_false, read_cons, ih fun c hc => hk c (List.mem_cons_of_mem _ hc)]
      by_cases h' : a = j
      · rw [if_pos h', if_neg (by omega), if_pos h']
      · rw [if_neg h', if_neg h']

theorem mem_erase_ne (m : Memory) (k : Nat) : ∀ c ∈ m.erase k, c.1 ≠ k := by
  induction m with
  | nil => simp [Memory.erase]
  | cons c m ih =>
    obtain ⟨a, b⟩ := c
    by_cases h : a = k
    · simpa only [Memory.erase, h, if_true] using ih
    · simp only [Memory.erase, h, if_false]
      intro c hc
      rcases List.mem_cons.mp hc with rfl | hc
      · exact h
      · exact ih c hc

/-- Reading after a write, of a memory in any form. -/
theorem read_write (m : Memory) (k j : Nat) (v : Byte) :
    (m.write k v).read j = if k = j then v else m.read j := by
  unfold Memory.write
  split
  · rw [read_erase]; split <;> simp_all
  · rw [read_insert _ _ _ _ (mem_erase_ne m k), read_erase]
    split <;> rfl

@[simp] theorem read_write_same (m : Memory) (k : Nat) (v : Byte) : (m.write k v).read k = v := by
  simp [read_write]

theorem read_write_other (m : Memory) {k j : Nat} (v : Byte) (h : k ≠ j) : (m.write k v).read j = m.read j := by
  simp [read_write, h]

/-- A memory made of bytes reads as those bytes from its first address on. -/
theorem read_ofBytes (bs : List Byte) (k j : Nat) :
    (Memory.ofBytes bs k).read j = if k ≤ j then bs.getD (j - k) 0 else 0 := by
  induction bs generalizing k with
  | nil => simp [Memory.ofBytes]
  | cons b bs ih =>
    have hs : k ≤ j → k ≠ j → bs.getD (j - (k + 1)) 0 = (b :: bs).getD (j - k) 0 := by
      intro h1 h2
      rw [show j - k = (j - (k + 1)) + 1 by omega]; simp
    by_cases hb : b = Memory.unlisted <;> simp only [Memory.ofBytes, hb, if_true, if_false, read_cons, ih]
    · by_cases h1 : k + 1 ≤ j
      · rw [if_pos h1, if_pos (by omega), hs (by omega) (by omega), hb]
      · rw [if_neg h1]
        by_cases h2 : k = j
        · subst h2; simp [Memory.unlisted]
        · rw [if_neg (by omega)]
    · by_cases h2 : k = j
      · subst h2; simp
      · rw [if_neg h2]
        by_cases h1 : k + 1 ≤ j
        · rw [if_pos h1, if_pos (by omega), hs (by omega) h2]
        · rw [if_neg h1, if_neg (by omega)]

/-! ## The canonical form -/

@[simp] theorem wfFrom_nil (lo size : Nat) : Memory.wfFrom lo size [] = true := rfl

@[simp] theorem wf_nil (size : Nat) : Memory.wf size [] = true := rfl

theorem wfFrom_cons (lo size a : Nat) (b : Byte) (m : Memory) :
    Memory.wfFrom lo size ((a, b) :: m) = true ↔
      lo ≤ a ∧ a < size ∧ b ≠ Memory.unlisted ∧ Memory.wfFrom (a + 1) size m = true := by
  simp [Memory.wfFrom, and_assoc]

theorem wfFrom_mono {lo lo' size : Nat} (h : lo' ≤ lo) (m : Memory) (hm : Memory.wfFrom lo size m = true) :
    Memory.wfFrom lo' size m = true := by
  cases m with
  | nil => rfl
  | cons c m =>
    obtain ⟨a, b⟩ := c
    rw [wfFrom_cons] at hm ⊢
    exact ⟨by omega, hm.2⟩

theorem wfFrom_erase (lo size k : Nat) (m : Memory) (hm : Memory.wfFrom lo size m = true) :
    Memory.wfFrom lo size (m.erase k) = true := by
  induction m generalizing lo with
  | nil => rfl
  | cons c m ih =>
    obtain ⟨a, b⟩ := c
    rw [wfFrom_cons] at hm
    by_cases h : a = k
    · simp only [Memory.erase, h, if_true]
      exact ih lo (wfFrom_mono (by omega) m hm.2.2.2)
    · simp only [Memory.erase, h, if_false]
      rw [wfFrom_cons]
      exact ⟨hm.1, hm.2.1, hm.2.2.1, ih _ hm.2.2.2⟩

theorem wfFrom_insert (lo size k : Nat) (v : Byte) (m : Memory) (hk : k < size) (hlo : lo ≤ k) (hv : v ≠ Memory.unlisted)
    (hne : ∀ c ∈ m, c.1 ≠ k) (hm : Memory.wfFrom lo size m = true) : Memory.wfFrom lo size (m.insert k v) = true := by
  induction m generalizing lo with
  | nil => simp [Memory.insert, wfFrom_cons, hk, hlo, hv]
  | cons c m ih =>
    obtain ⟨a, b⟩ := c
    have ha : a ≠ k := hne (a, b) (List.mem_cons_self ..)
    rw [wfFrom_cons] at hm
    by_cases h : k < a
    · simp only [Memory.insert, h, if_true]
      rw [wfFrom_cons, wfFrom_cons]
      exact ⟨hlo, hk, hv, by omega, hm.2.1, hm.2.2.1, hm.2.2.2⟩
    · simp only [Memory.insert, h, if_false]
      rw [wfFrom_cons]
      exact ⟨hm.1, hm.2.1, hm.2.2.1,
        ih (a + 1) (by omega) (fun c hc => hne c (List.mem_cons_of_mem _ hc)) hm.2.2.2⟩

/-- A write inside the memory keeps the canonical form. -/
theorem wf_write {size k : Nat} (v : Byte) {m : Memory} (hk : k < size) (hm : m.wf size = true) :
    (m.write k v).wf size = true := by
  unfold Memory.write Memory.wf at *
  split
  · exact wfFrom_erase 0 size k m hm
  · exact wfFrom_insert 0 size k v _ hk (Nat.zero_le _) ‹_› (mem_erase_ne m k) (wfFrom_erase 0 size k m hm)

theorem wfFrom_ofBytes (bs : List Byte) (k size : Nat) (h : k + bs.length ≤ size) :
    Memory.wfFrom k size (Memory.ofBytes bs k) = true := by
  induction bs generalizing k with
  | nil => rfl
  | cons b bs ih =>
    simp only [List.length_cons] at h
    have := ih (k + 1) (by omega)
    unfold Memory.ofBytes
    split
    · exact wfFrom_mono (Nat.le_succ k) _ this
    · rw [wfFrom_cons]
      exact ⟨Nat.le_refl k, by omega, ‹_›, this⟩

/-- A memory made of bytes is in canonical form. -/
theorem wf_ofBytes (bs : List Byte) {size : Nat} (h : bs.length ≤ size) : (Memory.ofBytes bs 0).wf size = true :=
  wfFrom_ofBytes bs 0 size (by omega)

/-- A memory made of zero bytes lists nothing. -/
theorem ofBytes_replicate_zero (n k : Nat) : Memory.ofBytes (List.replicate n 0) k = [] := by
  induction n generalizing k with
  | zero => rfl
  | succ n ih => exact (if_pos rfl).trans (ih (k + 1))

theorem read_of_wfFrom_lt {lo size : Nat} {m : Memory} (hm : Memory.wfFrom lo size m = true) {k : Nat} (hk : k < lo) :
    m.read k = 0 := by
  induction m generalizing lo with
  | nil => rfl
  | cons c m ih =>
    obtain ⟨a, b⟩ := c
    rw [wfFrom_cons] at hm
    rw [read_cons, if_neg (by omega)]
    exact ih hm.2.2.2 (by omega)

/-- Canonical memories that read alike are equal data. -/
theorem eq_of_read {size lo : Nat} {m m' : Memory} (hm : Memory.wfFrom lo size m = true)
    (hm' : Memory.wfFrom lo size m' = true) (h : ∀ k, m.read k = m'.read k) : m = m' := by
  induction m generalizing lo m' with
  | nil =>
    cases m' with
    | nil => rfl
    | cons c m' =>
      obtain ⟨a, b⟩ := c
      have := h a
      rw [wfFrom_cons] at hm'
      simp [read_cons] at this
      exact absurd this.symm hm'.2.2.1
  | cons c m ih =>
    obtain ⟨a, b⟩ := c
    cases m' with
    | nil =>
      have := h a
      rw [wfFrom_cons] at hm
      simp [read_cons] at this
      exact absurd this hm.2.2.1
    | cons c' m' =>
      obtain ⟨a', b'⟩ := c'
      rw [wfFrom_cons] at hm hm'
      have ha := h a
      have ha' := h a'
      simp only [read_cons, if_true] at ha ha'
      have haa : a = a' := by
        rcases Nat.lt_trichotomy a a' with hlt | heq | hgt
        · rw [if_neg (by omega), read_of_wfFrom_lt hm'.2.2.2 (by omega)] at ha
          exact absurd ha hm.2.2.1
        · exact heq
        · rw [if_neg (by omega), read_of_wfFrom_lt hm.2.2.2 (by omega)] at ha'
          exact absurd ha'.symm hm'.2.2.1
      subst haa
      simp only [if_true] at ha
      subst ha
      congr 1
      refine ih hm.2.2.2 hm'.2.2.2 fun k => ?_
      by_cases hk : k < a + 1
      · rw [read_of_wfFrom_lt hm.2.2.2 hk, read_of_wfFrom_lt hm'.2.2.2 hk]
      · have := h k
        rwa [read_cons, read_cons, if_neg (by omega), if_neg (by omega)] at this

end Sys2Proof.Laws
end

