-- ==== Sys2Proof/Laws/State.lean ====
section
/-!
SUPPORT. One lemma per field per update of State, so that no later proof unfolds a record update.
-/

namespace Sys2Proof.Laws

open Sys2Proof.Machine

variable (s : State)

@[simp] theorem setA_a (v : Byte) : (s.setA v).a = v := rfl
@[simp] theorem setA_x (v : Byte) : (s.setA v).x = s.x := rfl
@[simp] theorem setA_y (v : Byte) : (s.setA v).y = s.y := rfl
@[simp] theorem setA_sp (v : Byte) : (s.setA v).sp = s.sp := rfl
@[simp] theorem setA_pc (v : Byte) : (s.setA v).pc = s.pc := rfl
@[simp] theorem setA_p (v : Byte) : (s.setA v).p = s.p := rfl
@[simp] theorem setA_nmiPending (v : Byte) : (s.setA v).nmiPending = s.nmiPending := rfl
@[simp] theorem setA_irqPending (v : Byte) : (s.setA v).irqPending = s.irqPending := rfl
@[simp] theorem setA_cycles (v : Byte) : (s.setA v).cycles = s.cycles := rfl
@[simp] theorem setA_ram (v : Byte) : (s.setA v).ram = s.ram := rfl
@[simp] theorem setA_ppu (v : Byte) : (s.setA v).ppu = s.ppu := rfl
@[simp] theorem setA_joypad (v : Byte) : (s.setA v).joypad = s.joypad := rfl
@[simp] theorem setA_cartridgeAttached (v : Byte) : (s.setA v).cartridgeAttached = s.cartridgeAttached := rfl
@[simp] theorem setA_cart (v : Byte) : (s.setA v).cart = s.cart := rfl
@[simp] theorem setA_seq (v : Byte) : (s.setA v).seq = s.seq := rfl
@[simp] theorem setA_params (v : Byte) : (s.setA v).params = s.params := rfl

@[simp] theorem setX_a (v : Byte) : (s.setX v).a = s.a := rfl
@[simp] theorem setX_x (v : Byte) : (s.setX v).x = v := rfl
@[simp] theorem setX_y (v : Byte) : (s.setX v).y = s.y := rfl
@[simp] theorem setX_sp (v : Byte) : (s.setX v).sp = s.sp := rfl
@[simp] theorem setX_pc (v : Byte) : (s.setX v).pc = s.pc := rfl
@[simp] theorem setX_p (v : Byte) : (s.setX v).p = s.p := rfl
@[simp] theorem setX_nmiPending (v : Byte) : (s.setX v).nmiPending = s.nmiPending := rfl
@[simp] theorem setX_irqPending (v : Byte) : (s.setX v).irqPending = s.irqPending := rfl
@[simp] theorem setX_cycles (v : Byte) : (s.setX v).cycles = s.cycles := rfl
@[simp] theorem setX_ram (v : Byte) : (s.setX v).ram = s.ram := rfl
@[simp] theorem setX_ppu (v : Byte) : (s.setX v).ppu = s.ppu := rfl
@[simp] theorem setX_joypad (v : Byte) : (s.setX v).joypad = s.joypad := rfl
@[simp] theorem setX_cartridgeAttached (v : Byte) : (s.setX v).cartridgeAttached = s.cartridgeAttached := rfl
@[simp] theorem setX_cart (v : Byte) : (s.setX v).cart = s.cart := rfl
@[simp] theorem setX_seq (v : Byte) : (s.setX v).seq = s.seq := rfl
@[simp] theorem setX_params (v : Byte) : (s.setX v).params = s.params := rfl

@[simp] theorem setY_a (v : Byte) : (s.setY v).a = s.a := rfl
@[simp] theorem setY_x (v : Byte) : (s.setY v).x = s.x := rfl
@[simp] theorem setY_y (v : Byte) : (s.setY v).y = v := rfl
@[simp] theorem setY_sp (v : Byte) : (s.setY v).sp = s.sp := rfl
@[simp] theorem setY_pc (v : Byte) : (s.setY v).pc = s.pc := rfl
@[simp] theorem setY_p (v : Byte) : (s.setY v).p = s.p := rfl
@[simp] theorem setY_nmiPending (v : Byte) : (s.setY v).nmiPending = s.nmiPending := rfl
@[simp] theorem setY_irqPending (v : Byte) : (s.setY v).irqPending = s.irqPending := rfl
@[simp] theorem setY_cycles (v : Byte) : (s.setY v).cycles = s.cycles := rfl
@[simp] theorem setY_ram (v : Byte) : (s.setY v).ram = s.ram := rfl
@[simp] theorem setY_ppu (v : Byte) : (s.setY v).ppu = s.ppu := rfl
@[simp] theorem setY_joypad (v : Byte) : (s.setY v).joypad = s.joypad := rfl
@[simp] theorem setY_cartridgeAttached (v : Byte) : (s.setY v).cartridgeAttached = s.cartridgeAttached := rfl
@[simp] theorem setY_cart (v : Byte) : (s.setY v).cart = s.cart := rfl
@[simp] theorem setY_seq (v : Byte) : (s.setY v).seq = s.seq := rfl
@[simp] theorem setY_params (v : Byte) : (s.setY v).params = s.params := rfl

@[simp] theorem setSp_a (v : Byte) : (s.setSp v).a = s.a := rfl
@[simp] theorem setSp_x (v : Byte) : (s.setSp v).x = s.x := rfl
@[simp] theorem setSp_y (v : Byte) : (s.setSp v).y = s.y := rfl
@[simp] theorem setSp_sp (v : Byte) : (s.setSp v).sp = v := rfl
@[simp] theorem setSp_pc (v : Byte) : (s.setSp v).pc = s.pc := rfl
@[simp] theorem setSp_p (v : Byte) : (s.setSp v).p = s.p := rfl
@[simp] theorem setSp_nmiPending (v : Byte) : (s.setSp v).nmiPending = s.nmiPending := rfl
@[simp] theorem setSp_irqPending (v : Byte) : (s.setSp v).irqPending = s.irqPending := rfl
@[simp] theorem setSp_cycles (v : Byte) : (s.setSp v).cycles = s.cycles := rfl
@[simp] theorem setSp_ram (v : Byte) : (s.setSp v).ram = s.ram := rfl
@[simp] theorem setSp_ppu (v : Byte) : (s.setSp v).ppu = s.ppu := rfl
@[simp] theorem setSp_joypad (v : Byte) : (s.setSp v).joypad = s.joypad := rfl
@[simp] theorem setSp_cartridgeAttached (v : Byte) : (s.setSp v).cartridgeAttached = s.cartridgeAttached := rfl
@[simp] theorem setSp_cart (v : Byte) : (s.setSp v).cart = s.cart := rfl
@[simp] theorem setSp_seq (v : Byte) : (s.setSp v).seq = s.seq := rfl
@[simp] theorem setSp_params (v : Byte) : (s.setSp v).params = s.params := rfl

@[simp] theorem setPc_a (v : Word) : (s.setPc v).a = s.a := rfl
@[simp] theorem setPc_x (v : Word) : (s.setPc v).x = s.x := rfl
@[simp] theorem setPc_y (v : Word) : (s.setPc v).y = s.y := rfl
@[simp] theorem setPc_sp (v : Word) : (s.setPc v).sp = s.sp := rfl
@[simp] theorem setPc_pc (v : Word) : (s.setPc v).pc = v := rfl
@[simp] theorem setPc_p (v : Word) : (s.setPc v).p = s.p := rfl
@[simp] theorem setPc_nmiPending (v : Word) : (s.setPc v).nmiPending = s.nmiPending := rfl
@[simp] theorem setPc_irqPending (v : Word) : (s.setPc v).irqPending = s.irqPending := rfl
@[simp] theorem setPc_cycles (v : Word) : (s.setPc v).cycles = s.cycles := rfl
@[simp] theorem setPc_ram (v : Word) : (s.setPc v).ram = s.ram := rfl
@[simp] theorem setPc_ppu (v : Word) : (s.setPc v).ppu = s.ppu := rfl
@[simp] theorem setPc_joypad (v : Word) : (s.setPc v).joypad = s.joypad := rfl
@[simp] theorem setPc_cartridgeAttached (v : Word) : (s.setPc v).cartridgeAttached = s.cartridgeAttached := rfl
@[simp] theorem setPc_cart (v : Word) : (s.setPc v).cart = s.cart := rfl
@[simp] theorem setPc_seq (v : Word) : (s.setPc v).seq = s.seq := rfl
@[simp] theorem setPc_params (v : Word) : (s.setPc v).params = s.params := rfl

@[simp] theorem setP_a (v : Byte) : (s.setP v).a = s.a := rfl
@[simp] theorem setP_x (v : Byte) : (s.setP v).x = s.x := rfl
@[simp] theorem setP_y (v : Byte) : (s.setP v).y = s.y := rfl
@[simp] theorem setP_sp (v : Byte) : (s.setP v).sp = s.sp := rfl
@[simp] theorem setP_pc (v : Byte) : (s.setP v).pc = s.pc := rfl
@[simp] theorem setP_p (v : Byte) : (s.setP v).p = v := rfl
@[simp] theorem setP_nmiPending (v : Byte) : (s.setP v).nmiPending = s.nmiPending := rfl
@[simp] theorem setP_irqPending (v : Byte) : (s.setP v).irqPending = s.irqPending := rfl
@[simp] theorem setP_cycles (v : Byte) : (s.setP v).cycles = s.cycles := rfl
@[simp] theorem setP_ram (v : Byte) : (s.setP v).ram = s.ram := rfl
@[simp] theorem setP_ppu (v : Byte) : (s.setP v).ppu = s.ppu := rfl
@[simp] theorem setP_joypad (v : Byte) : (s.setP v).joypad = s.joypad := rfl
@[simp] theorem setP_cartridgeAttached (v : Byte) : (s.setP v).cartridgeAttached = s.cartridgeAttached := rfl
@[simp] theorem setP_cart (v : Byte) : (s.setP v).cart = s.cart := rfl
@[simp] theorem setP_seq (v : Byte) : (s.setP v).seq = s.seq := rfl
@[simp] theorem setP_params (v : Byte) : (s.setP v).params = s.params := rfl

@[simp] theorem setNmi_a (v : Bool) : (s.setNmi v).a = s.a := rfl
@[simp] theorem setNmi_x (v : Bool) : (s.setNmi v).x = s.x := rfl
@[simp] theorem setNmi_y (v : Bool) : (s.setNmi v).y = s.y := rfl
@[simp] theorem setNmi_sp (v : Bool) : (s.setNmi v).sp = s.sp := rfl
@[simp] theorem setNmi_pc (v : Bool) : (s.setNmi v).pc = s.pc := rfl
@[simp] theorem setNmi_p (v : Bool) : (s.setNmi v).p = s.p := rfl
@[simp] theorem setNmi_nmiPending (v : Bool) : (s.setNmi v).nmiPending = v := rfl
@[simp] theorem setNmi_irqPending (v : Bool) : (s.setNmi v).irqPending = s.irqPending := rfl
@[simp] theorem setNmi_cycles (v : Bool) : (s.setNmi v).cycles = s.cycles := rfl
@[simp] theorem setNmi_ram (v : Bool) : (s.setNmi v).ram = s.ram := rfl
@[simp] theorem setNmi_ppu (v : Bool) : (s.setNmi v).ppu = s.ppu := rfl
@[simp] theorem setNmi_joypad (v : Bool) : (s.setNmi v).joypad = s.joypad := rfl
@[simp] theorem setNmi_cartridgeAttached (v : Bool) : (s.setNmi v).cartridgeAttached = s.cartridgeAttached := rfl
@[simp] theorem setNmi_cart (v : Bool) : (s.setNmi v).cart = s.cart := rfl
@[simp] theorem setNmi_seq (v : Bool) : (s.setNmi v).seq = s.seq := rfl
@[simp] theorem setNmi_params (v : Bool) : (s.setNmi v).params = s.params := rfl

@[simp] theorem setIrq_a (v : Bool) : (s.setIrq v).a = s.a := rfl
@[simp] theorem setIrq_x (v : Bool) : (s.setIrq v).x = s.x := rfl
@[simp] theorem setIrq_y (v : Bool) : (s.setIrq v).y = s.y := rfl
@[simp] theorem setIrq_sp (v : Bool) : (s.setIrq v).sp = s.sp := rfl
@[simp] theorem setIrq_pc (v : Bool) : (s.setIrq v).pc = s.pc := rfl
@[simp] theorem setIrq_p (v : Bool) : (s.setIrq v).p = s.p := rfl
@[simp] theorem setIrq_nmiPending (v : Bool) : (s.setIrq v).nmiPending = s.nmiPending := rfl
@[simp] theorem setIrq_irqPending (v : Bool) : (s.setIrq v).irqPending = v := rfl
@[simp] theorem setIrq_cycles (v : Bool) : (s.setIrq v).cycles = s.cycles := rfl
@[simp] theorem setIrq_ram (v : Bool) : (s.setIrq v).ram = s.ram := rfl
@[simp] theorem setIrq_ppu (v : Bool) : (s.setIrq v).ppu = s.ppu := rfl
@[simp] theorem setIrq_joypad (v : Bool) : (s.setIrq v).joypad = s.joypad := rfl
@[simp] theorem setIrq_cartridgeAttached (v : Bool) : (s.setIrq v).cartridgeAttached = s.cartridgeAttached := rfl
@[simp] theorem setIrq_cart (v : Bool) : (s.setIrq v).cart = s.cart := rfl
@[simp] theorem setIrq_seq (v : Bool) : (s.setIrq v).seq = s.seq := rfl
@[simp] theorem setIrq_params (v : Bool) : (s.setIrq v).params = s.params := rfl

@[simp] theorem setCycles_a (v : Nat) : (s.setCycles v).a = s.a := rfl
@[simp] theorem setCycles_x (v : Nat) : (s.setCycles v).x = s.x := rfl
@[simp] theorem setCycles_y (v : Nat) : (s.setCycles v).y = s.y := rfl
@[simp] theorem setCycles_sp (v : Nat) : (s.setCycles v).sp = s.sp := rfl
@[simp] theorem setCycles_pc (v : Nat) : (s.setCycles v).pc = s.pc := rfl
@[simp] theorem setCycles_p (v : Nat) : (s.setCycles v).p = s.p := rfl
@[simp] theorem setCycles_nmiPending (v : Nat) : (s.setCycles v).nmiPending = s.nmiPending := rfl
@[simp] theorem setCycles_irqPending (v : Nat) : (s.setCycles v).irqPending = s.irqPending := rfl
@[simp] theorem setCycles_cycles (v : Nat) : (s.setCycles v).cycles = v := rfl
@[simp] theorem setCycles_ram (v : Nat) : (s.setCycles v).ram = s.ram := rfl
@[simp] theorem setCycles_ppu (v : Nat) : (s.setCycles v).ppu = s.ppu := rfl
@[simp] theorem setCycles_joypad (v : Nat) : (s.setCycles v).joypad = s.joypad := rfl
@[simp] theorem setCycles_cartridgeAttached (v : Nat) : (s.setCycles v).cartridgeAttached = s.cartridgeAttached := rfl
@[simp] theorem setCycles_cart (v : Nat) : (s.setCycles v).cart = s.cart := rfl
@[simp] theorem setCycles_seq (v : Nat) : (s.setCycles v).seq = s.seq := rfl
@[simp] theorem setCycles_params (v : Nat) : (s.setCycles v).params = s.params := rfl

@[simp] theorem setRam_a (v : Memory) : (s.setRam v).a = s.a := rfl
@[simp] theorem setRam_x (v : Memory) : (s.setRam v).x = s.x := rfl
@[simp] theorem setRam_y (v : Memory) : (s.setRam v).y = s.y := rfl
@[simp] theorem setRam_sp (v : Memory) : (s.setRam v).sp = s.sp := rfl
@[simp] theorem setRam_pc (v : Memory) : (s.setRam v).pc = s.pc := rfl
@[simp] theorem setRam_p (v : Memory) : (s.setRam v).p = s.p := rfl
@[simp] theorem setRam_nmiPending (v : Memory) : (s.setRam v).nmiPending = s.nmiPending := rfl
@[simp] theorem setRam_irqPending (v : Memory) : (s.setRam v).irqPending = s.irqPending := rfl
@[simp] theorem setRam_cycles (v : Memory) : (s.setRam v).cycles = s.cycles := rfl
@[simp] theorem setRam_ram (v : Memory) : (s.setRam v).ram = v := rfl
@[simp] theorem setRam_ppu (v : Memory) : (s.setRam v).ppu = s.ppu := rfl
@[simp] theorem setRam_joypad (v : Memory) : (s.setRam v).joypad = s.joypad := rfl
@[simp] theorem setRam_cartridgeAttached (v : Memory) : (s.setRam v).cartridgeAttached = s.cartridgeAttached := rfl
@[simp] theorem setRam_cart (v : Memory) : (s.setRam v).cart = s.cart := rfl
@[simp] theorem setRam_seq (v : Memory) : (s.setRam v).seq = s.seq := rfl
@[simp] theorem setRam_params (v : Memory) : (s.setRam v).params = s.params := rfl

@[simp] theorem setPpu_a (v : Ppu) : (s.setPpu v).a = s.a := rfl
@[simp] theorem setPpu_x (v : Ppu) : (s.setPpu v).x = s.x := rfl
@[simp] theorem setPpu_y (v : Ppu) : (s.setPpu v).y = s.y := rfl
@[simp] theorem setPpu_sp (v : Ppu) : (s.setPpu v).sp = s.sp := rfl
@[simp] theorem setPpu_pc (v : Ppu) : (s.setPpu v).pc = s.pc := rfl
@[simp] theorem setPpu_p (v : Ppu) : (s.setPpu v).p = s.p := rfl
@[simp] theorem setPpu_nmiPending (v : Ppu) : (s.setPpu v).nmiPending = s.nmiPending := rfl
@[simp] theorem setPpu_irqPending (v : Ppu) : (s.setPpu v).irqPending = s.irqPending := rfl
@[simp] theorem setPpu_cycles (v : Ppu) : (s.setPpu v).cycles = s.cycles := rfl
@[simp] theorem setPpu_ram (v : Ppu) : (s.setPpu v).ram = s.ram := rfl
@[simp] theorem setPpu_ppu (v : Ppu) : (s.setPpu v).ppu = v := rfl
@[simp] theorem setPpu_joypad (v : Ppu) : (s.setPpu v).joypad = s.joypad := rfl
@[simp] theorem setPpu_cartridgeAttached (v : Ppu) : (s.setPpu v).cartridgeAttached = s.cartridgeAttached := rfl
@[simp] theorem setPpu_cart (v : Ppu) : (s.setPpu v).cart = s.cart := rfl
@[simp] theorem setPpu_seq (v : Ppu) : (s.setPpu v).seq = s.seq := rfl
@[simp] theorem setPpu_params (v : Ppu) : (s.setPpu v).params = s.params := rfl

@[simp] theorem setJoypad_a (v : Joypad) : (s.setJoypad v).a = s.a := rfl
@[simp] theorem setJoypad_x (v : Joypad) : (s.setJoypad v).x = s.x := rfl
@[simp] theorem setJoypad_y (v : Joypad) : (s.setJoypad v).y = s.y := rfl
@[simp] theorem setJoypad_sp (v : Joypad) : (s.setJoypad v).sp = s.sp := rfl
@[simp] theorem setJoypad_pc (v : Joypad) : (s.setJoypad v).pc = s.pc := rfl
@[simp] theorem setJoypad_p (v : Joypad) : (s.setJoypad v).p = s.p := rfl
@[simp] theorem setJoypad_nmiPending (v : Joypad) : (s.setJoypad v).nmiPending = s.nmiPending := rfl
@[simp] theorem setJoypad_irqPending (v : Joypad) : (s.setJoypad v).irqPending = s.irqPending := rfl
@[simp] theorem setJoypad_cycles (v : Joypad) : (s.setJoypad v).cycles = s.cycles := rfl
@[simp] theorem setJoypad_ram (v : Joypad) : (s.setJoypad v).ram = s.ram := rfl
@[simp] theorem setJoypad_ppu (v : Joypad) : (s.setJoypad v).ppu = s.ppu := rfl
@[simp] theorem setJoypad_joypad (v : Joypad) : (s.setJoypad v).joypad = v := rfl
@[simp] theorem setJoypad_cartridgeAttached (v : Joypad) : (s.setJoypad v).cartridgeAttached = s.cartridgeAttached := rfl
@[simp] theorem setJoypad_cart (v : Joypad) : (s.setJoypad v).cart = s.cart := rfl
@[simp] theorem setJoypad_seq (v : Joypad) : (s.setJoypad v).seq = s.seq := rfl
@[simp] theorem setJoypad_params (v : Joypad) : (s.setJoypad v).params = s.params := rfl

@[simp] theorem setAttached_a (v : Bool) : (s.setAttached v).a = s.a := rfl
@[simp] theorem setAttached_x (v : Bool) : (s.setAttached v).x = s.x := rfl
@[simp] theorem setAttached_y (v : Bool) : (s.setAttached v).y = s.y := rfl
@[simp] theorem setAttached_sp (v : Bool) : (s.setAttached v).sp = s.sp := rfl
@[simp] theorem setAttached_pc (v : Bool) : (s.setAttached v).pc = s.pc := rfl
@[simp] theorem setAttached_p (v : Bool) : (s.setAttached v).p = s.p := rfl
@[simp] theorem setAttached_nmiPending (v : Bool) : (s.setAttached v).nmiPending = s.nmiPending := rfl
@[simp] theorem setAttached_irqPending (v : Bool) : (s.setAttached v).irqPending = s.irqPending := rfl
@[simp] theorem setAttached_cycles (v : Bool) : (s.setAttached v).cycles = s.cycles := rfl
@[simp] theorem setAttached_ram (v : Bool) : (s.setAttached v).ram = s.ram := rfl
@[simp] theorem setAttached_ppu (v : Bool) : (s.setAttached v).ppu = s.ppu := rfl
@[simp] theorem setAttached_joypad (v : Bool) : (s.setAttached v).joypad = s.joypad := rfl
@[simp] theorem setAttached_cartridgeAttached (v : Bool) : (s.setAttached v).cartridgeAttached = v := rfl
@[simp] theorem setAttached_cart (v : Bool) : (s.setAttached v).cart = s.cart := rfl
@[simp] theorem setAttached_seq (v : Bool) : (s.setAttached v).seq = s.seq := rfl
@[simp] theorem setAttached_params (v : Bool) : (s.setAttached v).params = s.params := rfl

@[simp] theorem setCart_a (v : Cartridge) : (s.setCart v).a = s.a := rfl
@[simp] theorem setCart_x (v : Cartridge) : (s.setCart v).x = s.x := rfl
@[simp] theorem setCart_y (v : Cartridge) : (s.setCart v).y = s.y := rfl
@[simp] theorem setCart_sp (v : Cartridge) : (s.setCart v).sp = s.sp := rfl
@[simp] theorem setCart_pc (v : Cartridge) : (s.setCart v).pc = s.pc := rfl
@[simp] theorem setCart_p (v : Cartridge) : (s.setCart v).p = s.p := rfl
@[simp] theorem setCart_nmiPending (v : Cartridge) : (s.setCart v).nmiPending = s.nmiPending := rfl
@[simp] theorem setCart_irqPending (v : Cartridge) : (s.setCart v).irqPending = s.irqPending := rfl
@[simp] theorem setCart_cycles (v : Cartridge) : (s.setCart v).cycles = s.cycles := rfl
@[simp] theorem setCart_ram (v : Cartridge) : (s.setCart v).ram = s.ram := rfl
@[simp] theorem setCart_ppu (v : Cartridge) : (s.setCart v).ppu = s.ppu := rfl
@[simp] theorem setCart_joypad (v : Cartridge) : (s.setCart v).joypad = s.joypad := rfl
@[simp] theorem setCart_cartridgeAttached (v : Cartridge) : (s.setCart v).cartridgeAttached = s.cartridgeAttached := rfl
@[simp] theorem setCart_cart (v : Cartridge) : (s.setCart v).cart = v := rfl
@[simp] theorem setCart_seq (v : Cartridge) : (s.setCart v).seq = s.seq := rfl
@[simp] theorem setCart_params (v : Cartridge) : (s.setCart v).params = s.params := rfl

@[simp] theorem setSeq_a (v : Sequencer) : (s.setSeq v).a = s.a := rfl
@[simp] theorem setSeq_x (v : Sequencer) : (s.setSeq v).x = s.x := rfl
@[simp] theorem setSeq_y (v : Sequencer) : (s.setSeq v).y = s.y := rfl
@[simp] theorem setSeq_sp (v : Sequencer) : (s.setSeq v).sp = s.sp := rfl
@[simp] theorem setSeq_pc (v : Sequencer) : (s.setSeq v).pc = s.pc := rfl
@[simp] theorem setSeq_p (v : Sequencer) : (s.setSeq v).p = s.p := rfl
@[simp] theorem setSeq_nmiPending (v : Sequencer) : (s.setSeq v).nmiPending = s.nmiPending := rfl
@[simp] theorem setSeq_irqPending (v : Sequencer) : (s.setSeq v).irqPending = s.irqPending := rfl
@[simp] theorem setSeq_cycles (v : Sequencer) : (s.setSeq v).cycles = s.cycles := rfl
@[simp] theorem setSeq_ram (v : Sequencer) : (s.setSeq v).ram = s.ram := rfl
@[simp] theorem setSeq_ppu (v : Sequencer) : (s.setSeq v).ppu = s.ppu := rfl
@[simp] theorem setSeq_joypad (v : Sequencer) : (s.setSeq v).joypad = s.joypad := rfl
@[simp] theorem setSeq_cartridgeAttached (v : Sequencer) : (s.setSeq v).cartridgeAttached = s.cartridgeAttached := rfl
@[simp] theorem setSeq_cart (v : Sequencer) : (s.setSeq v).cart = s.cart := rfl
@[simp] theorem setSeq_seq (v : Sequencer) : (s.setSeq v).seq = v := rfl
@[simp] theorem setSeq_params (v : Sequencer) : (s.setSeq v).params = s.params := rfl

end Sys2Proof.Laws
end

