-- ==== Sys2Proof/Laws/Ops.lean ====
section
/-!
SUPPORT. The laws of the shared operations: the router row by row, what a read and a write of the CPU bus can change, the
stack, taking an exception and returning from one.
-/

namespace Sys2Proof.Laws

open Sys2Proof.Machine

/-! ## Words -/

@[simp] theorem toNat_u16 (hi lo : Byte) : (u16 hi lo).toNat = hi.toNat * 256 + lo.toNat := by
  have := lo.isLt
  simp only [u16, BitVec.toNat_append]
  rw [← Nat.shiftLeft_add_eq_or_of_lt (by omega), Nat.shiftLeft_eq]

@[simp] theorem u16_hi8_lo8 (w : Word) : u16 (hi8 w) (lo8 w) = w := by
  apply BitVec.eq_of_toNat_eq
  have := w.isLt
  simp only [toNat_u16, hi8, lo8, BitVec.extractLsb'_toNat]
  simp [Nat.shiftRight_eq_div_pow]
  omega

@[simp] theorem hi8_u16 (hi lo : Byte) : hi8 (u16 hi lo) = hi := by
  apply BitVec.eq_of_toNat_eq
  have := lo.isLt; have := hi.isLt
  simp only [hi8, BitVec.extractLsb'_toNat, toNat_u16, Nat.shiftRight_eq_div_pow]
  omega

@[simp] theorem lo8_u16 (hi lo : Byte) : lo8 (u16 hi lo) = lo := by
  apply BitVec.eq_of_toNat_eq
  have := lo.isLt; have := hi.isLt
  simp only [lo8, BitVec.extractLsb'_toNat, toNat_u16, Nat.shiftRight_eq_div_pow]
  omega

/-! ## The router, row by row (R41, R42) -/

variable (s : State) (a : Word) (v : Byte)

theorem memRead_at_ram {a : Word} (h : a.toNat < 0x2000) : memRead s a = (s.ram.read (a.toNat % 0x800), s) := by
  simp [memRead, h]

theorem memRead_at_port {a : Word} (h : 0x2000 ≤ a.toNat) (h' : a.toNat < 0x4000) :
    memRead s a = ppuRegRead s (a.toNat % 8) := by
  simp [memRead, h', Nat.not_lt.mpr h]

theorem memRead_at_joypad {a : Word} (h : a.toNat = 0x4016) : memRead s a = joypadRead s := by
  simp [memRead, h]

theorem memRead_at_unmapped {a : Word} (h : 0x4000 ≤ a.toNat) (h' : a.toNat < 0x6000) (h6 : a.toNat ≠ 0x4016) :
    memRead s a = (if a.toNat = 0x4017 then 0x40 else 0x00, s) := by
  by_cases h1 : a.toNat < 0x4016
  · simp (disch := omega) only [memRead, if_neg, if_pos]
  · by_cases h2 : a.toNat = 0x4017 <;> simp (disch := omega) only [memRead, if_neg, if_pos]

theorem memRead_at_prgRam {a : Word} (h : 0x6000 ≤ a.toNat) (h' : a.toNat < 0x8000) :
    memRead s a = (s.cart.prgRAM.read (a.toNat - 0x6000), s) := by
  simp (disch := omega) only [memRead, if_neg, if_pos]

theorem memRead_at_prgRom {a : Word} (h : 0x8000 ≤ a.toNat) :
    memRead s a = (s.cart.prgROM.read (prgRomIndex s.cart a.toNat), s) := by
  simp (disch := omega) only [memRead, if_neg]

theorem memWrite_at_ram {a : Word} (h : a.toNat < 0x2000) :
    memWrite s a v = s.setRam (s.ram.write (a.toNat % 0x800) v) := by
  simp [memWrite, h]

theorem memWrite_at_port {a : Word} (h : 0x2000 ≤ a.toNat) (h' : a.toNat < 0x4000) :
    memWrite s a v = ppuRegWrite s (a.toNat % 8) v := by
  simp [memWrite, h', Nat.not_lt.mpr h]

theorem memWrite_at_dma {a : Word} (h : a.toNat = 0x4014) : memWrite s a v = oamDma v s := by
  simp [memWrite, h]

theorem memWrite_at_joypad {a : Word} (h : a.toNat = 0x4016) : memWrite s a v = joypadWrite s v := by
  simp [memWrite, h]

theorem memWrite_at_unmapped {a : Word} (h : 0x4000 ≤ a.toNat) (h' : a.toNat < 0x6000) (h4 : a.toNat ≠ 0x4014)
    (h6 : a.toNat ≠ 0x4016) : memWrite s a v = s := by
  unfold memWrite
  simp only
  rw [if_neg (by omega), if_neg (by omega), if_neg h4, if_neg h6, if_pos h']
  split <;> first | rfl | (split <;> rfl)

theorem memWrite_at_prgRam {a : Word} (h : 0x6000 ≤ a.toNat) (h' : a.toNat < 0x8000) :
    memWrite s a v = s.setCart { s.cart with prgRAM := s.cart.prgRAM.write (a.toNat - 0x6000) v } := by
  simp (disch := omega) only [memWrite, if_neg, if_pos]

theorem memWrite_at_prgRom {a : Word} (h : 0x8000 ≤ a.toNat) : memWrite s a v = s := by
  simp (disch := omega) only [memWrite, if_neg]

/-- The rows of the router as one case split. -/
theorem router_cases (a : Word) :
    a.toNat < 0x2000 ∨ (0x2000 ≤ a.toNat ∧ a.toNat < 0x4000) ∨ a.toNat = 0x4014 ∨ a.toNat = 0x4016 ∨
    (0x4000 ≤ a.toNat ∧ a.toNat < 0x6000 ∧ a.toNat ≠ 0x4014 ∧ a.toNat ≠ 0x4016) ∨
    (0x6000 ≤ a.toNat ∧ a.toNat < 0x8000) ∨ 0x8000 ≤ a.toNat := by
  omega

/-! ## What a read can change (R55) -/

theorem ppuRegRead_effects (r : Nat) : OnlyReadEffects s (ppuRegRead s r).2 := by
  unfold ppuRegRead readStatus readOamData readVideoData incVram OnlyReadEffects
  split
  · rfl
  · split
    · rfl
    · split
      · split <;> rfl
      · rfl

/-- A read changes at most four PPU registers and the joypad's index. -/
theorem memRead_effects : OnlyReadEffects s (memRead s a).2 := by
  rcases router_cases a with h | ⟨h, h'⟩ | h | h | ⟨h, h', -, h6⟩ | ⟨h, h'⟩ | h
  · rw [memRead_at_ram s h]; rfl
  · rw [memRead_at_port s h h']; exact ppuRegRead_effects s _
  · rw [memRead_at_unmapped s (by omega) (by omega) (by omega)]; rfl
  · rw [memRead_at_joypad s h]; rfl
  · rw [memRead_at_unmapped s h h' h6]; rfl
  · rw [memRead_at_prgRam s h h']; rfl
  · rw [memRead_at_prgRom s h]; rfl

/-- A read of memory changes nothing. -/
theorem memRead_memory {a : Word} (h : isMemory a = true) : (memRead s a).2 = s := by
  simp only [isMemory, Bool.or_eq_true, decide_eq_true_eq] at h
  rcases h with h | h
  · rw [memRead_at_ram s h]
  · by_cases h' : a.toNat < 0x8000
    · rw [memRead_at_prgRam s h h']
    · rw [memRead_at_prgRom s (by omega)]

@[simp] theorem memRead_a : (memRead s a).2.a = s.a := by rw [memRead_effects s a]
@[simp] theorem memRead_x : (memRead s a).2.x = s.x := by rw [memRead_effects s a]
@[simp] theorem memRead_y : (memRead s a).2.y = s.y := by rw [memRead_effects s a]
@[simp] theorem memRead_sp : (memRead s a).2.sp = s.sp := by rw [memRead_effects s a]
@[simp] theorem memRead_pc : (memRead s a).2.pc = s.pc := by rw [memRead_effects s a]
@[simp] theorem memRead_p : (memRead s a).2.p = s.p := by rw [memRead_effects s a]
@[simp] theorem memRead_nmiPending : (memRead s a).2.nmiPending = s.nmiPending := by rw [memRead_effects s a]
@[simp] theorem memRead_irqPending : (memRead s a).2.irqPending = s.irqPending := by rw [memRead_effects s a]
@[simp] theorem memRead_cycles : (memRead s a).2.cycles = s.cycles := by rw [memRead_effects s a]
@[simp] theorem memRead_ram : (memRead s a).2.ram = s.ram := by rw [memRead_effects s a]
@[simp] theorem memRead_cartridgeAttached : (memRead s a).2.cartridgeAttached = s.cartridgeAttached := by rw [memRead_effects s a]
@[simp] theorem memRead_cart : (memRead s a).2.cart = s.cart := by rw [memRead_effects s a]
@[simp] theorem memRead_seq : (memRead s a).2.seq = s.seq := by rw [memRead_effects s a]
@[simp] theorem memRead_params : (memRead s a).2.params = s.params := by rw [memRead_effects s a]
@[simp] theorem memRead_ppu_control : (memRead s a).2.ppu.control = s.ppu.control := by rw [memRead_effects s a]
@[simp] theorem memRead_ppu_mask : (memRead s a).2.ppu.mask = s.ppu.mask := by rw [memRead_effects s a]
@[simp] theorem memRead_ppu_oamAddress : (memRead s a).2.ppu.oamAddress = s.ppu.oamAddress := by rw [memRead_effects s a]
@[simp] theorem memRead_ppu_scrollX : (memRead s a).2.ppu.scrollX = s.ppu.scrollX := by rw [memRead_effects s a]
@[simp] theorem memRead_ppu_scrollY : (memRead s a).2.ppu.scrollY = s.ppu.scrollY := by rw [memRead_effects s a]
@[simp] theorem memRead_ppu_nameTableRAM : (memRead s a).2.ppu.nameTableRAM = s.ppu.nameTableRAM := by rw [memRead_effects s a]
@[simp] theorem memRead_ppu_paletteRAM : (memRead s a).2.ppu.paletteRAM = s.ppu.paletteRAM := by rw [memRead_effects s a]
@[simp] theorem memRead_ppu_oam : (memRead s a).2.ppu.oam = s.ppu.oam := by rw [memRead_effects s a]
@[simp] theorem memRead_ppu_frameBuffer : (memRead s a).2.ppu.frameBuffer = s.ppu.frameBuffer := by rw [memRead_effects s a]
@[simp] theorem memRead_joypad_buttonMask : (memRead s a).2.joypad.buttonMask = s.joypad.buttonMask := by rw [memRead_effects s a]
@[simp] theorem memRead_joypad_strobe : (memRead s a).2.joypad.strobe = s.joypad.strobe := by rw [memRead_effects s a]

@[simp] theorem memRead_ppuRead (b : VideoAddr) : ppuRead (memRead s a).2 b = ppuRead s b := by
  simp [ppuRead]

/-- A byte of memory does not change when another read is made first. -/
theorem memRead_memRead_memory (b : Word) (h : isMemory b = true) : (memRead (memRead s a).2 b).1 = (memRead s b).1 := by
  simp only [isMemory, Bool.or_eq_true, decide_eq_true_eq] at h
  rcases h with h | h
  · rw [memRead_at_ram _ h, memRead_at_ram _ h]; simp
  · by_cases h' : b.toNat < 0x8000
    · rw [memRead_at_prgRam _ h h', memRead_at_prgRam _ h h']; simp
    · rw [memRead_at_prgRom _ (a := b) (by omega), memRead_at_prgRom _ (a := b) (by omega)]; simp

/-! ## What a write can change -/

@[simp] theorem ppuWrite_a (b : VideoAddr) : (ppuWrite s b v).a = s.a := by unfold ppuWrite; split <;> [split; split] <;> rfl
@[simp] theorem ppuWrite_x (b : VideoAddr) : (ppuWrite s b v).x = s.x := by unfold ppuWrite; split <;> [split; split] <;> rfl
@[simp] theorem ppuWrite_y (b : VideoAddr) : (ppuWrite s b v).y = s.y := by unfold ppuWrite; split <;> [split; split] <;> rfl
@[simp] theorem ppuWrite_sp (b : VideoAddr) : (ppuWrite s b v).sp = s.sp := by unfold ppuWrite; split <;> [split; split] <;> rfl
@[simp] theorem ppuWrite_pc (b : VideoAddr) : (ppuWrite s b v).pc = s.pc := by unfold ppuWrite; split <;> [split; split] <;> rfl
@[simp] theorem ppuWrite_p (b : VideoAddr) : (ppuWrite s b v).p = s.p := by unfold ppuWrite; split <;> [split; split] <;> rfl
@[simp] theorem ppuWrite_nmiPending (b : VideoAddr) : (ppuWrite s b v).nmiPending = s.nmiPending := by unfold ppuWrite; split <;> [split; split] <;> rfl
@[simp] theorem ppuWrite_irqPending (b : VideoAddr) : (ppuWrite s b v).irqPending = s.irqPending := by unfold ppuWrite; split <;> [split; split] <;> rfl
@[simp] theorem ppuWrite_cycles (b : VideoAddr) : (ppuWrite s b v).cycles = s.cycles := by unfold ppuWrite; split <;> [split; split] <;> rfl
@[simp] theorem ppuWrite_ram (b : VideoAddr) : (ppuWrite s b v).ram = s.ram := by unfold ppuWrite; split <;> [split; split] <;> rfl
@[simp] theorem ppuWrite_cartridgeAttached (b : VideoAddr) : (ppuWrite s b v).cartridgeAttached = s.cartridgeAttached := by unfold ppuWrite; split <;> [split; split] <;> rfl
@[simp] theorem ppuWrite_seq (b : VideoAddr) : (ppuWrite s b v).seq = s.seq := by unfold ppuWrite; split <;> [split; split] <;> rfl
@[simp] theorem ppuWrite_params (b : VideoAddr) : (ppuWrite s b v).params = s.params := by unfold ppuWrite; split <;> [split; split] <;> rfl
@[simp] theorem ppuWrite_joypad (b : VideoAddr) : (ppuWrite s b v).joypad = s.joypad := by unfold ppuWrite; split <;> [split; split] <;> rfl
@[simp] theorem ppuWrite_ppu_control (b : VideoAddr) : (ppuWrite s b v).ppu.control = s.ppu.control := by unfold ppuWrite; split <;> [split; split] <;> rfl
@[simp] theorem ppuWrite_ppu_mask (b : VideoAddr) : (ppuWrite s b v).ppu.mask = s.ppu.mask := by unfold ppuWrite; split <;> [split; split] <;> rfl
@[simp] theorem ppuWrite_ppu_status (b : VideoAddr) : (ppuWrite s b v).ppu.status = s.ppu.status := by unfold ppuWrite; split <;> [split; split] <;> rfl
@[simp] theorem ppuWrite_ppu_oamAddress (b : VideoAddr) : (ppuWrite s b v).ppu.oamAddress = s.ppu.oamAddress := by unfold ppuWrite; split <;> [split; split] <;> rfl
@[simp] theorem ppuWrite_ppu_scrollX (b : VideoAddr) : (ppuWrite s b v).ppu.scrollX = s.ppu.scrollX := by unfold ppuWrite; split <;> [split; split] <;> rfl
@[simp] theorem ppuWrite_ppu_scrollY (b : VideoAddr) : (ppuWrite s b v).ppu.scrollY = s.ppu.scrollY := by unfold ppuWrite; split <;> [split; split] <;> rfl
@[simp] theorem ppuWrite_ppu_addressLatch (b : VideoAddr) : (ppuWrite s b v).ppu.addressLatch = s.ppu.addressLatch := by unfold ppuWrite; split <;> [split; split] <;> rfl
@[simp] theorem ppuWrite_ppu_vramAddress (b : VideoAddr) : (ppuWrite s b v).ppu.vramAddress = s.ppu.vramAddress := by unfold ppuWrite; split <;> [split; split] <;> rfl
@[simp] theorem ppuWrite_ppu_readBuffer (b : VideoAddr) : (ppuWrite s b v).ppu.readBuffer = s.ppu.readBuffer := by unfold ppuWrite; split <;> [split; split] <;> rfl
@[simp] theorem ppuWrite_ppu_oam (b : VideoAddr) : (ppuWrite s b v).ppu.oam = s.ppu.oam := by unfold ppuWrite; split <;> [split; split] <;> rfl
@[simp] theorem ppuWrite_ppu_frameBuffer (b : VideoAddr) : (ppuWrite s b v).ppu.frameBuffer = s.ppu.frameBuffer := by unfold ppuWrite; split <;> [split; split] <;> rfl
@[simp] theorem ppuWrite_cart_prgBanks (b : VideoAddr) : (ppuWrite s b v).cart.prgBanks = s.cart.prgBanks := by unfold ppuWrite; split <;> [split; split] <;> rfl
@[simp] theorem ppuWrite_cart_prgROM (b : VideoAddr) : (ppuWrite s b v).cart.prgROM = s.cart.prgROM := by unfold ppuWrite; split <;> [split; split] <;> rfl
@[simp] theorem ppuWrite_cart_prgRAM (b : VideoAddr) : (ppuWrite s b v).cart.prgRAM = s.cart.prgRAM := by unfold ppuWrite; split <;> [split; split] <;> rfl
@[simp] theorem ppuWrite_cart_hasCharacterRAM (b : VideoAddr) : (ppuWrite s b v).cart.hasCharacterRAM = s.cart.hasCharacterRAM := by unfold ppuWrite; split <;> [split; split] <;> rfl
@[simp] theorem ppuWrite_cart_mapperId (b : VideoAddr) : (ppuWrite s b v).cart.mapperId = s.cart.mapperId := by unfold ppuWrite; split <;> [split; split] <;> rfl
@[simp] theorem ppuWrite_cart_mirroring (b : VideoAddr) : (ppuWrite s b v).cart.mirroring = s.cart.mirroring := by unfold ppuWrite; split <;> [split; split] <;> rfl

/-- What a write of the CPU bus can change: work RAM, the PPU but not its frame or status, the joypad's strobe and index,
program RAM, character RAM. -/
def OnlyWriteEffects (s t : State) : Prop :=
  (∃ (ram : Memory) (ppu : Ppu) (joypad : Joypad) (prgRAM chr : Memory),
    t = { s with ram := ram, ppu := ppu, joypad := joypad, cart := { s.cart with prgRAM := prgRAM, chr := chr } }) ∧
  t.ppu.frameBuffer = s.ppu.frameBuffer ∧ t.joypad.buttonMask = s.joypad.buttonMask ∧
  (s.cart.hasCharacterRAM = false → t.cart.chr = s.cart.chr) ∧ (s.ppu.status = 0 → t.ppu.status = 0)

theorem OnlyWriteEffects.refl : OnlyWriteEffects s s :=
  ⟨⟨s.ram, s.ppu, s.joypad, s.cart.prgRAM, s.cart.chr, rfl⟩, rfl, rfl, fun _ => rfl, id⟩

theorem OnlyWriteEffects.trans {s t u : State} (h : OnlyWriteEffects s t) (h' : OnlyWriteEffects t u) :
    OnlyWriteEffects s u := by
  obtain ⟨⟨_, _, _, _, _, rfl⟩, h2, h3, h4, h5⟩ := h
  obtain ⟨⟨_, _, _, _, _, rfl⟩, h2', h3', h4', h5'⟩ := h'
  exact ⟨⟨_, _, _, _, _, rfl⟩, h2'.trans h2, h3'.trans h3, fun hc => (h4' hc).trans (h4 hc), fun hs => h5' (h5 hs)⟩

theorem readStatus_zero (h : s.ppu.status = 0) : (readStatus s).2.ppu.status = 0 := by
  simp [readStatus, h]

/-- A read never raises the status bits. -/
theorem memRead_status_zero (h : s.ppu.status = 0) : (memRead s a).2.ppu.status = 0 := by
  rcases router_cases a with h1 | ⟨h1, h1'⟩ | h1 | h1 | ⟨h1, h1', -, h6⟩ | ⟨h1, h1'⟩ | h1
  · rw [memRead_at_ram s h1]; exact h
  · rw [memRead_at_port s h1 h1']
    unfold ppuRegRead readOamData readVideoData incVram
    split
    · exact readStatus_zero s h
    · split
      · exact h
      · split
        · split <;> exact h
        · exact h
  · rw [memRead_at_unmapped s (by omega) (by omega) (by omega)]; exact h
  · rw [memRead_at_joypad s h1]; exact h
  · rw [memRead_at_unmapped s h1 h1' h6]; exact h
  · rw [memRead_at_prgRam s h1 h1']; exact h
  · rw [memRead_at_prgRom s h1]; exact h

theorem memRead_writeEffects : OnlyWriteEffects s (memRead s a).2 := by
  refine ⟨⟨_, _, _, _, _, memRead_effects s a⟩, ?_, ?_, ?_, memRead_status_zero s a⟩ <;> simp

theorem ppuRegWrite_writeEffects (r : Nat) : OnlyWriteEffects s (ppuRegWrite s r v) := by
  have self : ∀ p : Ppu, p.frameBuffer = s.ppu.frameBuffer → (s.ppu.status = 0 → p.status = 0) →
      OnlyWriteEffects s (s.setPpu p) := fun p hf hs => ⟨⟨s.ram, p, s.joypad, s.cart.prgRAM, s.cart.chr, rfl⟩, hf, rfl,
        fun _ => rfl, hs⟩
  unfold ppuRegWrite writeControl writeMask writeOamAddress writeOamData writeScroll writeVideoAddress writeVideoData incVram
  repeat' split
  all_goals first
    | exact self _ rfl id
    | exact OnlyWriteEffects.refl s
    | skip
  unfold ppuWrite
  repeat' split
  · rename_i hc
    exact ⟨⟨_, _, _, _, _, rfl⟩, rfl, rfl, fun h => absurd (hc.symm.trans h) (by decide), id⟩
  · exact self _ rfl id
  · exact self _ rfl id
  · exact self _ rfl id

theorem oamDmaStep_writeEffects (k : Nat) : OnlyWriteEffects s (oamDmaStep v s k) := by
  refine (memRead_writeEffects s (u16 v (BitVec.ofNat 8 k))).trans ?_
  exact ⟨⟨_, _, _, _, _, rfl⟩, rfl, rfl, fun _ => rfl, id⟩

theorem foldl_writeEffects {f : State → Nat → State} (h : ∀ s k, OnlyWriteEffects s (f s k)) (l : List Nat) :
    ∀ s, OnlyWriteEffects s (l.foldl f s) := by
  induction l with
  | nil => exact OnlyWriteEffects.refl
  | cons k l ih => exact fun s => (h s k).trans (ih _)

theorem oamDma_writeEffects : OnlyWriteEffects s (oamDma v s) :=
  foldl_writeEffects (fun s k => oamDmaStep_writeEffects s v k) _ s

theorem joypadWrite_writeEffects : OnlyWriteEffects s (joypadWrite s v) := by
  unfold joypadWrite
  split <;> exact ⟨⟨s.ram, s.ppu, _, s.cart.prgRAM, s.cart.chr, rfl⟩, rfl, rfl, fun _ => rfl, id⟩

/-- Everything a write of the CPU bus can change. -/
theorem memWrite_writeEffects : OnlyWriteEffects s (memWrite s a v) := by
  rcases router_cases a with h | ⟨h, h'⟩ | h | h | ⟨h, h', h4, h6⟩ | ⟨h, h'⟩ | h
  · rw [memWrite_at_ram s v h]
    exact ⟨⟨_, s.ppu, s.joypad, s.cart.prgRAM, s.cart.chr, rfl⟩, rfl, rfl, fun _ => rfl, id⟩
  · rw [memWrite_at_port s v h h']; exact ppuRegWrite_writeEffects s v _
  · rw [memWrite_at_dma s v h]; exact oamDma_writeEffects s v
  · rw [memWrite_at_joypad s v h]; exact joypadWrite_writeEffects s v
  · rw [memWrite_at_unmapped s v h h' h4 h6]; exact OnlyWriteEffects.refl s
  · rw [memWrite_at_prgRam s v h h']
    exact ⟨⟨s.ram, s.ppu, s.joypad, _, s.cart.chr, rfl⟩, rfl, rfl, fun _ => rfl, id⟩
  · rw [memWrite_at_prgRom s v h]; exact OnlyWriteEffects.refl s

theorem OnlyWriteEffects.eq_a {s t : State} (h : OnlyWriteEffects s t) : t.a = s.a := by
  obtain ⟨⟨_, _, _, _, _, rfl⟩, -⟩ := h; rfl
theorem OnlyWriteEffects.eq_x {s t : State} (h : OnlyWriteEffects s t) : t.x = s.x := by
  obtain ⟨⟨_, _, _, _, _, rfl⟩, -⟩ := h; rfl
theorem OnlyWriteEffects.eq_y {s t : State} (h : OnlyWriteEffects s t) : t.y = s.y := by
  obtain ⟨⟨_, _, _, _, _, rfl⟩, -⟩ := h; rfl
theorem OnlyWriteEffects.eq_sp {s t : State} (h : OnlyWriteEffects s t) : t.sp = s.sp := by
  obtain ⟨⟨_, _, _, _, _, rfl⟩, -⟩ := h; rfl
theorem OnlyWriteEffects.eq_pc {s t : State} (h : OnlyWriteEffects s t) : t.pc = s.pc := by
  obtain ⟨⟨_, _, _, _, _, rfl⟩, -⟩ := h; rfl
theorem OnlyWriteEffects.eq_p {s t : State} (h : OnlyWriteEffects s t) : t.p = s.p := by
  obtain ⟨⟨_, _, _, _, _, rfl⟩, -⟩ := h; rfl
theorem OnlyWriteEffects.eq_nmiPending {s t : State} (h : OnlyWriteEffects s t) : t.nmiPending = s.nmiPending := by
  obtain ⟨⟨_, _, _, _, _, rfl⟩, -⟩ := h; rfl
theorem OnlyWriteEffects.eq_irqPending {s t : State} (h : OnlyWriteEffects s t) : t.irqPending = s.irqPending := by
  obtain ⟨⟨_, _, _, _, _, rfl⟩, -⟩ := h; rfl
theorem OnlyWriteEffects.eq_cycles {s t : State} (h : OnlyWriteEffects s t) : t.cycles = s.cycles := by
  obtain ⟨⟨_, _, _, _, _, rfl⟩, -⟩ := h; rfl
theorem OnlyWriteEffects.eq_cartridgeAttached {s t : State} (h : OnlyWriteEffects s t) : t.cartridgeAttached = s.cartridgeAttached := by
  obtain ⟨⟨_, _, _, _, _, rfl⟩, -⟩ := h; rfl
theorem OnlyWriteEffects.eq_seq {s t : State} (h : OnlyWriteEffects s t) : t.seq = s.seq := by
  obtain ⟨⟨_, _, _, _, _, rfl⟩, -⟩ := h; rfl
theorem OnlyWriteEffects.eq_params {s t : State} (h : OnlyWriteEffects s t) : t.params = s.params := by
  obtain ⟨⟨_, _, _, _, _, rfl⟩, -⟩ := h; rfl
theorem OnlyWriteEffects.eq_prgBanks {s t : State} (h : OnlyWriteEffects s t) : t.cart.prgBanks = s.cart.prgBanks := by
  obtain ⟨⟨_, _, _, _, _, rfl⟩, -⟩ := h; rfl
theorem OnlyWriteEffects.eq_prgROM {s t : State} (h : OnlyWriteEffects s t) : t.cart.prgROM = s.cart.prgROM := by
  obtain ⟨⟨_, _, _, _, _, rfl⟩, -⟩ := h; rfl
theorem OnlyWriteEffects.eq_hasCharacterRAM {s t : State} (h : OnlyWriteEffects s t) : t.cart.hasCharacterRAM = s.cart.hasCharacterRAM := by
  obtain ⟨⟨_, _, _, _, _, rfl⟩, -⟩ := h; rfl
theorem OnlyWriteEffects.eq_mapperId {s t : State} (h : OnlyWriteEffects s t) : t.cart.mapperId = s.cart.mapperId := by
  obtain ⟨⟨_, _, _, _, _, rfl⟩, -⟩ := h; rfl
theorem OnlyWriteEffects.eq_mirroring {s t : State} (h : OnlyWriteEffects s t) : t.cart.mirroring = s.cart.mirroring := by
  obtain ⟨⟨_, _, _, _, _, rfl⟩, -⟩ := h; rfl

@[simp] theorem memWrite_a : (memWrite s a v).a = s.a := (memWrite_writeEffects s a v).eq_a
@[simp] theorem memWrite_x : (memWrite s a v).x = s.x := (memWrite_writeEffects s a v).eq_x
@[simp] theorem memWrite_y : (memWrite s a v).y = s.y := (memWrite_writeEffects s a v).eq_y
@[simp] theorem memWrite_sp : (memWrite s a v).sp = s.sp := (memWrite_writeEffects s a v).eq_sp
@[simp] theorem memWrite_pc : (memWrite s a v).pc = s.pc := (memWrite_writeEffects s a v).eq_pc
@[simp] theorem memWrite_p : (memWrite s a v).p = s.p := (memWrite_writeEffects s a v).eq_p
@[simp] theorem memWrite_nmiPending : (memWrite s a v).nmiPending = s.nmiPending := (memWrite_writeEffects s a v).eq_nmiPending
@[simp] theorem memWrite_irqPending : (memWrite s a v).irqPending = s.irqPending := (memWrite_writeEffects s a v).eq_irqPending
@[simp] theorem memWrite_cycles : (memWrite s a v).cycles = s.cycles := (memWrite_writeEffects s a v).eq_cycles
@[simp] theorem memWrite_cartridgeAttached : (memWrite s a v).cartridgeAttached = s.cartridgeAttached := (memWrite_writeEffects s a v).eq_cartridgeAttached
@[simp] theorem memWrite_seq : (memWrite s a v).seq = s.seq := (memWrite_writeEffects s a v).eq_seq
@[simp] theorem memWrite_params : (memWrite s a v).params = s.params := (memWrite_writeEffects s a v).eq_params
@[simp] theorem memWrite_cart_prgBanks : (memWrite s a v).cart.prgBanks = s.cart.prgBanks := (memWrite_writeEffects s a v).eq_prgBanks
@[simp] theorem memWrite_cart_prgROM : (memWrite s a v).cart.prgROM = s.cart.prgROM := (memWrite_writeEffects s a v).eq_prgROM
@[simp] theorem memWrite_cart_hasCharacterRAM : (memWrite s a v).cart.hasCharacterRAM = s.cart.hasCharacterRAM := (memWrite_writeEffects s a v).eq_hasCharacterRAM
@[simp] theorem memWrite_cart_mapperId : (memWrite s a v).cart.mapperId = s.cart.mapperId := (memWrite_writeEffects s a v).eq_mapperId
@[simp] theorem memWrite_cart_mirroring : (memWrite s a v).cart.mirroring = s.cart.mirroring := (memWrite_writeEffects s a v).eq_mirroring
@[simp] theorem memWrite_frameBuffer : (memWrite s a v).ppu.frameBuffer = s.ppu.frameBuffer :=
  (memWrite_writeEffects s a v).2.1
@[simp] theorem memWrite_buttonMask : (memWrite s a v).joypad.buttonMask = s.joypad.buttonMask :=
  (memWrite_writeEffects s a v).2.2.1

/-! ## The bus and the status register do not meet -/

theorem ppuRegRead_setP (p : Byte) (r : Nat) :
    ppuRegRead (s.setP p) r = ((ppuRegRead s r).1, (ppuRegRead s r).2.setP p) := by
  unfold ppuRegRead
  repeat' split
  all_goals first | rfl | skip
  unfold readVideoData
  split <;> rename_i h <;> rw [setP_ppu] at h <;> simp only [h, if_true, if_false] <;> rfl

theorem memRead_setP (p : Byte) : memRead (s.setP p) a = ((memRead s a).1, (memRead s a).2.setP p) := by
  unfold memRead
  simp only
  repeat' split
  all_goals first | rfl | exact ppuRegRead_setP s p _

theorem ppuWrite_setP (p : Byte) (b : VideoAddr) : ppuWrite (s.setP p) b v = (ppuWrite s b v).setP p := by
  unfold ppuWrite
  simp only [setP_cart]
  repeat' split
  all_goals first | rfl | (simp only [*, if_true]; rfl)

theorem ppuRegWrite_setP (p : Byte) (r : Nat) : ppuRegWrite (s.setP p) r v = (ppuRegWrite s r v).setP p := by
  unfold ppuRegWrite writeScroll writeVideoAddress writeVideoData
  simp only [setP_ppu, ppuWrite_setP]
  repeat' split
  all_goals first | rfl | (simp only [*, if_true]; rfl)

theorem oamDmaStep_setP (p : Byte) (k : Nat) : oamDmaStep v (s.setP p) k = (oamDmaStep v s k).setP p := by
  unfold oamDmaStep
  rw [memRead_setP]; rfl

theorem oamDma_setP (p : Byte) : oamDma v (s.setP p) = (oamDma v s).setP p := by
  unfold oamDma
  generalize List.range 256 = l
  induction l generalizing s with
  | nil => rfl
  | cons k l ih => simp only [List.foldl_cons, oamDmaStep_setP, ih]

theorem memWrite_setP (p : Byte) : memWrite (s.setP p) a v = (memWrite s a v).setP p := by
  unfold memWrite
  simp only [oamDma_setP, ppuRegWrite_setP]
  repeat' split
  all_goals first | rfl | (unfold joypadWrite; split <;> rfl)

/-! ## The stack (R17) -/

@[simp] theorem toNat_stackAddr (sp : Byte) : (stackAddr sp).toNat = 0x100 + sp.toNat := by
  simp [stackAddr]

@[simp] theorem memRead_stack (sp : Byte) : memRead s (stackAddr sp) = (s.ram.read (0x100 + sp.toNat), s) := by
  have := sp.isLt
  rw [memRead_at_ram s (by simp; omega), toNat_stackAddr, Nat.mod_eq_of_lt (by omega)]

@[simp] theorem memWrite_stack (sp : Byte) :
    memWrite s (stackAddr sp) v = s.setRam (s.ram.write (0x100 + sp.toNat) v) := by
  have := sp.isLt
  rw [memWrite_at_ram s v (by simp; omega), toNat_stackAddr, Nat.mod_eq_of_lt (by omega)]

/-- Pushing writes one byte of the stack page and moves `SP` down. -/
theorem push_eq : push v s = { s with ram := s.ram.write (0x100 + s.sp.toNat) v, sp := s.sp - 1 } := by
  simp [push]; rfl

/-- Popping reads one byte of the stack page and moves `SP` up. -/
theorem pop_eq : pop s = (s.ram.read (0x100 + (s.sp + 1).toNat), { s with sp := s.sp + 1 }) := by
  simp [pop]; rfl

theorem pushWord_eq (w : Word) : pushWord w s = { s with
    ram := (s.ram.write (0x100 + s.sp.toNat) (hi8 w)).write (0x100 + (s.sp - 1).toNat) (lo8 w), sp := s.sp - 2 } := by
  have h : s.sp - 1 - 1 = s.sp - 2 := by generalize s.sp = x; revert x; decide
  simp only [pushWord, push_eq, h]

theorem popWord_eq : popWord s =
    (u16 (s.ram.read (0x100 + (s.sp + 2).toNat)) (s.ram.read (0x100 + (s.sp + 1).toNat)), { s with sp := s.sp + 2 }) := by
  have h : s.sp + 1 + 1 = s.sp + 2 := by generalize s.sp = x; revert x; decide
  simp only [popWord, pop_eq, h]

/-- Reading a vector, which lies in program ROM. -/
theorem memRead16_rom {a : Word} (h : 0x8000 ≤ a.toNat) (h' : 0x8000 ≤ (a + 1).toNat) :
    memRead16 s a = (u16 (memRead s (a + 1)).1 (memRead s a).1, s) := by
  simp only [memRead16, memRead_at_prgRom s h, memRead_at_prgRom s h']

/-! ## Exceptions (R295, R182, R298) -/

/-- Taking an exception, whole: the three bytes pushed, `SP`, the status, `PC`. -/
theorem enterException_eq (status : Byte) (vector : Word) (h : 0x8000 ≤ vector.toNat)
    (h' : 0x8000 ≤ (vector + 1).toNat) : enterException status vector s = { s with
      ram := pushedFrame s s.pc status, sp := s.sp - 3, p := putFlag s.p .I true,
      pc := u16 (memRead s (vector + 1)).1 (memRead s vector).1 } := by
  have h2 : s.sp - 2 - 1 = s.sp - 3 := by generalize s.sp = x; revert x; decide
  unfold enterException
  simp only [pushWord_eq, push_eq, memRead16_rom _ h h', memRead_at_prgRom _ h, memRead_at_prgRom _ h', State.setFlag, State.setP,
    State.setPc, pushedFrame, h2]

/-- Returning from an exception, whole. -/
theorem returnFromException_eq : returnFromException s = { s with
    sp := s.sp + 3, p := pulledStatus (s.ram.read (0x100 + (s.sp + 1).toNat)),
    pc := u16 (s.ram.read (0x100 + (s.sp + 3).toNat)) (s.ram.read (0x100 + (s.sp + 2).toNat)) } := by
  have h1 : s.sp + 1 + 1 = s.sp + 2 := by generalize s.sp = x; revert x; decide
  have h2 : s.sp + 1 + 2 = s.sp + 3 := by generalize s.sp = x; revert x; decide
  simp only [returnFromException, pop_eq, popWord_eq, State.setP, State.setPc, h1, h2]

end Sys2Proof.Laws
end

