-- ==== Sys2Proof/Laws/Invariant.lean ====
section
/-!
SUPPORT. The forms of the machine's memories: canonical, of the spec's sizes, the aliased palette bytes never written; and
that every memory operation keeps them.
-/

namespace Sys2Proof.Laws

open Sys2Proof.Machine

/-! ## Index ranges (R205, R206) -/

theorem ntIndex_lt (mode : Mirroring) (a : Nat) : ntIndex mode a < 2048 := by
  cases mode <;> simp only [ntIndex] <;> omega

/-- `PalIndex` as arithmetic: the four aliases drop their bit 4. -/
theorem palIndex_eq (a : Nat) :
    palIndex a = if a % 4 = 0 ∧ 16 ≤ a % 32 then a % 16 else a % 32 := by
  have h : ∀ i < 32, (if i &&& 0x13 = 0x10 then i % 0x10 else i) = if i % 4 = 0 ∧ 16 ≤ i then i % 16 else i := by decide
  have := h (a % 32) (Nat.mod_lt _ (by decide))
  unfold palIndex
  simp only
  rw [this, Nat.mod_mod_of_dvd _ (by decide : 4 ∣ 32), Nat.mod_mod_of_dvd _ (by decide : 16 ∣ 32)]

theorem palIndex_lt (a : Nat) : palIndex a < 32 := by
  rw [palIndex_eq]; split <;> omega

theorem palIndex_not_aliased (a : Nat) : palIndex a ∉ [16, 20, 24, 28] := by
  simp only [List.mem_cons, List.not_mem_nil, or_false, not_or]
  rw [palIndex_eq]; split <;> omega

/-! ## The forms -/

/-- The forms of the machine's memories. -/
structure Forms (s : State) : Prop where
  ram : Memory.wf 2048 s.ram = true
  nameTable : Memory.wf 2048 s.ppu.nameTableRAM = true
  palette : Memory.wf 32 s.ppu.paletteRAM = true
  oam : Memory.wf 256 s.ppu.oam = true
  prgRam : Memory.wf 8192 s.cart.prgRAM = true
  chr : Memory.wf 8192 s.cart.chr = true
  prgRom : Memory.wf s.cart.prgLength s.cart.prgROM = true
  aliased : ∀ k ∈ [16, 20, 24, 28], s.ppu.paletteRAM.read k = 0

variable {s : State}

theorem Forms.ppuWrite (h : Forms s) (a : VideoAddr) (v : Byte) : Forms (ppuWrite s a v) := by
  unfold Machine.ppuWrite
  split
  · split
    · exact { h with chr := wf_write v (by omega) h.chr }
    · exact h
  · split
    · exact { h with nameTable := wf_write v (ntIndex_lt _ _) h.nameTable }
    · refine { h with palette := wf_write v (palIndex_lt _) h.palette, aliased := fun k hk => ?_ }
      refine (read_write_other _ v fun he => ?_).trans (h.aliased k hk)
      exact palIndex_not_aliased _ (he ▸ hk)

theorem Forms.ppuRegWrite (h : Forms s) (r : Nat) (v : Byte) : Forms (ppuRegWrite s r v) := by
  unfold Machine.ppuRegWrite writeControl writeMask writeOamAddress writeOamData writeScroll writeVideoAddress writeVideoData
    incVram
  repeat' split
  all_goals first
    | exact h
    | exact { h with oam := wf_write v (s.ppu.oamAddress.isLt) h.oam }
    | exact { h with }
    | exact { h.ppuWrite s.ppu.vramAddress v with }

theorem Forms.memRead (h : Forms s) (a : Word) : Forms (memRead s a).2 := by
  constructor <;> simp only [memRead_ram, memRead_ppu_nameTableRAM, memRead_ppu_paletteRAM, memRead_ppu_oam, memRead_cart]
  exacts [h.ram, h.nameTable, h.palette, h.oam, h.prgRam, h.chr, h.prgRom, h.aliased]

theorem Forms.oamDmaStep (h : Forms s) (page : Byte) (k : Nat) : Forms (oamDmaStep page s k) := by
  have := h.memRead (u16 page (BitVec.ofNat 8 k))
  exact { this with oam := wf_write _ (Nat.mod_lt _ (by decide)) this.oam }

theorem Forms.foldl {f : State → Nat → State} (hf : ∀ s k, Forms s → Forms (f s k)) (l : List Nat) :
    ∀ s, Forms s → Forms (l.foldl f s) := by
  induction l with
  | nil => exact fun s h => h
  | cons k l ih => exact fun s h => ih _ (hf s k h)

/-- A write of the CPU bus keeps the forms of every memory. -/
theorem Forms.memWrite (h : Forms s) (a : Word) (v : Byte) : Forms (memWrite s a v) := by
  rcases router_cases a with h1 | ⟨h1, h1'⟩ | h1 | h1 | ⟨h1, h1', h4, h6⟩ | ⟨h1, h1'⟩ | h1
  · rw [memWrite_at_ram s v h1]; exact { h with ram := wf_write v (Nat.mod_lt _ (by decide)) h.ram }
  · rw [memWrite_at_port s v h1 h1']; exact h.ppuRegWrite _ v
  · rw [memWrite_at_dma s v h1]; exact Forms.foldl (fun s k hs => hs.oamDmaStep v k) _ s h
  · rw [memWrite_at_joypad s v h1]; unfold joypadWrite; split <;> exact { h with }
  · rw [memWrite_at_unmapped s v h1 h1' h4 h6]; exact h
  · rw [memWrite_at_prgRam s v h1 h1']; exact { h with prgRam := wf_write v (by omega) h.prgRam }
  · rw [memWrite_at_prgRom s v h1]; exact h

/-- Placing a byte from outside keeps them too. -/
theorem Forms.place (h : Forms s) (hL : 0 < s.cart.prgLength) (a : Word) (v : Byte) : Forms (place s a v) := by
  unfold Machine.place
  simp only
  split
  · exact { h with ram := wf_write v (Nat.mod_lt _ (by decide)) h.ram }
  · split
    · exact h
    · split
      · exact { h with prgRam := wf_write v (by omega) h.prgRam }
      · exact { h with prgRom := wf_write v (Nat.mod_lt _ hL) h.prgRom }

theorem reset_forms : Forms State.reset := by
  constructor <;> decide

end Sys2Proof.Laws
end

