-- ==== Sys2Proof/Laws/Dispatch.lean ====
section
/-!
SUPPORT. The arms of `exec`, once per mnemonic: which operation an instruction runs, with which operand and cycle count. A
proof about all instructions splits on the mnemonic here and never unfolds `exec`.
-/

namespace Sys2Proof.Laws

open Sys2Proof.Machine

/-- The operation that `exec` runs for an instruction, by its mnemonic. -/
def Meaning (i : Instr) : Prop :=
  match i.mnemonic with
  | .lda => ∃ o, i.mode = Operand.mode o ∧ ∀ s, exec i s = ldaOp o (baseCount s.params i.opcode) s
  | .ldx => ∃ o, i.mode = Operand.mode o ∧ ∀ s, exec i s = ldxOp o (baseCount s.params i.opcode) s
  | .ldy => ∃ o, i.mode = Operand.mode o ∧ ∀ s, exec i s = ldyOp o (baseCount s.params i.opcode) s
  | .adc => ∃ o, i.mode = Operand.mode o ∧ ∀ s, exec i s = adcOp o (baseCount s.params i.opcode) s
  | .sbc => ∃ o, i.mode = Operand.mode o ∧ ∀ s, exec i s = sbcOp o (baseCount s.params i.opcode) s
  | .and => ∃ o, i.mode = Operand.mode o ∧ ∀ s, exec i s = andOp o (baseCount s.params i.opcode) s
  | .ora => ∃ o, i.mode = Operand.mode o ∧ ∀ s, exec i s = oraOp o (baseCount s.params i.opcode) s
  | .eor => ∃ o, i.mode = Operand.mode o ∧ ∀ s, exec i s = eorOp o (baseCount s.params i.opcode) s
  | .cmp => ∃ o, i.mode = Operand.mode o ∧ ∀ s, exec i s = cmpOp o (baseCount s.params i.opcode) s
  | .cpx => ∃ o, i.mode = Operand.mode o ∧ ∀ s, exec i s = cpxOp o (baseCount s.params i.opcode) s
  | .cpy => ∃ o, i.mode = Operand.mode o ∧ ∀ s, exec i s = cpyOp o (baseCount s.params i.opcode) s
  | .bit => ∃ m, i.mode = .mem m ∧ ∀ s, exec i s = bitOp (.mem m) (baseCount s.params i.opcode) s
  | .sta => ∃ m, i.mode = .mem m ∧ ∀ s, exec i s = staOp m (baseCount s.params i.opcode) s
  | .stx => ∃ m, i.mode = .mem m ∧ ∀ s, exec i s = stxOp m (baseCount s.params i.opcode) s
  | .sty => ∃ m, i.mode = .mem m ∧ ∀ s, exec i s = styOp m (baseCount s.params i.opcode) s
  | .inc => ∃ m, i.mode = .mem m ∧ ∀ s, exec i s = incMem m (baseCount s.params i.opcode) s
  | .dec => ∃ m, i.mode = .mem m ∧ ∀ s, exec i s = decMem m (baseCount s.params i.opcode) s
  | .asl => (i.mode = .acc ∧ ∀ s, exec i s = aslAcc (baseCount s.params i.opcode) s) ∨
      ∃ m, i.mode = .mem m ∧ ∀ s, exec i s = aslMem m (baseCount s.params i.opcode) s
  | .lsr => (i.mode = .acc ∧ ∀ s, exec i s = lsrAcc (baseCount s.params i.opcode) s) ∨
      ∃ m, i.mode = .mem m ∧ ∀ s, exec i s = lsrMem m (baseCount s.params i.opcode) s
  | .rol => (i.mode = .acc ∧ ∀ s, exec i s = rolAcc (baseCount s.params i.opcode) s) ∨
      ∃ m, i.mode = .mem m ∧ ∀ s, exec i s = rolMem m (baseCount s.params i.opcode) s
  | .ror => (i.mode = .acc ∧ ∀ s, exec i s = rorAcc (baseCount s.params i.opcode) s) ∨
      ∃ m, i.mode = .mem m ∧ ∀ s, exec i s = rorMem m (baseCount s.params i.opcode) s
  | .bpl => ∃ off, i.mode = .rel off ∧ EncodedAs i 2 ∧ exec i = bplOp off
  | .bmi => ∃ off, i.mode = .rel off ∧ EncodedAs i 2 ∧ exec i = bmiOp off
  | .bvc => ∃ off, i.mode = .rel off ∧ EncodedAs i 2 ∧ exec i = bvcOp off
  | .bvs => ∃ off, i.mode = .rel off ∧ EncodedAs i 2 ∧ exec i = bvsOp off
  | .bcc => ∃ off, i.mode = .rel off ∧ EncodedAs i 2 ∧ exec i = bccOp off
  | .bcs => ∃ off, i.mode = .rel off ∧ EncodedAs i 2 ∧ exec i = bcsOp off
  | .bne => ∃ off, i.mode = .rel off ∧ EncodedAs i 2 ∧ exec i = bneOp off
  | .beq => ∃ off, i.mode = .rel off ∧ EncodedAs i 2 ∧ exec i = beqOp off
  | .jmp => (∃ a, i = .jmpAbs a) ∨ ∃ a, i = .jmpInd a
  | .jsr => ∃ a, i = .jsr a
  | .tax => i = .tax
  | .tay => i = .tay
  | .txa => i = .txa
  | .tya => i = .tya
  | .tsx => i = .tsx
  | .txs => i = .txs
  | .inx => i = .inx
  | .iny => i = .iny
  | .dex => i = .dex
  | .dey => i = .dey
  | .rts => i = .rts
  | .pha => i = .pha
  | .php => i = .php
  | .pla => i = .pla
  | .plp => i = .plp
  | .clc => i = .clc
  | .sec => i = .sec
  | .cli => i = .cli
  | .sei => i = .sei
  | .cld => i = .cld
  | .sed => i = .sed
  | .clv => i = .clv
  | .nop => i = .nop
  | .brk => i = .brk
  | .rti => i = .rti
  | .unassigned => i.mode = .imp ∧ EncodedAs i 2 ∧ exec i = noOperation


/-- One case per constructor. -/
theorem exec_meaning (i : Instr) : Meaning i :=
  match i with
  | .ldaIzx d => ⟨.mem (.izx d), rfl, fun _ => rfl⟩
  | .ldaZp d => ⟨.mem (.zp d), rfl, fun _ => rfl⟩
  | .ldaImm v => ⟨.imm v, rfl, fun _ => rfl⟩
  | .ldaAbs a => ⟨.mem (.abs a), rfl, fun _ => rfl⟩
  | .ldaIzy d => ⟨.mem (.izy d), rfl, fun _ => rfl⟩
  | .ldaZpx d => ⟨.mem (.zpx d), rfl, fun _ => rfl⟩
  | .ldaAby a => ⟨.mem (.aby a), rfl, fun _ => rfl⟩
  | .ldaAbx a => ⟨.mem (.abx a), rfl, fun _ => rfl⟩
  | .ldxImm v => ⟨.imm v, rfl, fun _ => rfl⟩
  | .ldxZp d => ⟨.mem (.zp d), rfl, fun _ => rfl⟩
  | .ldxAbs a => ⟨.mem (.abs a), rfl, fun _ => rfl⟩
  | .ldxZpy d => ⟨.mem (.zpy d), rfl, fun _ => rfl⟩
  | .ldxAby a => ⟨.mem (.aby a), rfl, fun _ => rfl⟩
  | .ldyImm v => ⟨.imm v, rfl, fun _ => rfl⟩
  | .ldyZp d => ⟨.mem (.zp d), rfl, fun _ => rfl⟩
  | .ldyAbs a => ⟨.mem (.abs a), rfl, fun _ => rfl⟩
  | .ldyZpx d => ⟨.mem (.zpx d), rfl, fun _ => rfl⟩
  | .ldyAbx a => ⟨.mem (.abx a), rfl, fun _ => rfl⟩
  | .staIzx d => ⟨.izx d, rfl, fun _ => rfl⟩
  | .staZp d => ⟨.zp d, rfl, fun _ => rfl⟩
  | .staAbs a => ⟨.abs a, rfl, fun _ => rfl⟩
  | .staIzy d => ⟨.izy d, rfl, fun _ => rfl⟩
  | .staZpx d => ⟨.zpx d, rfl, fun _ => rfl⟩
  | .staAby a => ⟨.aby a, rfl, fun _ => rfl⟩
  | .staAbx a => ⟨.abx a, rfl, fun _ => rfl⟩
  | .stxZp d => ⟨.zp d, rfl, fun _ => rfl⟩
  | .stxAbs a => ⟨.abs a, rfl, fun _ => rfl⟩
  | .stxZpy d => ⟨.zpy d, rfl, fun _ => rfl⟩
  | .styZp d => ⟨.zp d, rfl, fun _ => rfl⟩
  | .styAbs a => ⟨.abs a, rfl, fun _ => rfl⟩
  | .styZpx d => ⟨.zpx d, rfl, fun _ => rfl⟩
  | .tax => (rfl : _ = _)
  | .tay => (rfl : _ = _)
  | .txa => (rfl : _ = _)
  | .tya => (rfl : _ = _)
  | .tsx => (rfl : _ = _)
  | .txs => (rfl : _ = _)
  | .adcIzx d => ⟨.mem (.izx d), rfl, fun _ => rfl⟩
  | .adcZp d => ⟨.mem (.zp d), rfl, fun _ => rfl⟩
  | .adcImm v => ⟨.imm v, rfl, fun _ => rfl⟩
  | .adcAbs a => ⟨.mem (.abs a), rfl, fun _ => rfl⟩
  | .adcIzy d => ⟨.mem (.izy d), rfl, fun _ => rfl⟩
  | .adcZpx d => ⟨.mem (.zpx d), rfl, fun _ => rfl⟩
  | .adcAby a => ⟨.mem (.aby a), rfl, fun _ => rfl⟩
  | .adcAbx a => ⟨.mem (.abx a), rfl, fun _ => rfl⟩
  | .sbcIzx d => ⟨.mem (.izx d), rfl, fun _ => rfl⟩
  | .sbcZp d => ⟨.mem (.zp d), rfl, fun _ => rfl⟩
  | .sbcImm v => ⟨.imm v, rfl, fun _ => rfl⟩
  | .sbcAbs a => ⟨.mem (.abs a), rfl, fun _ => rfl⟩
  | .sbcIzy d => ⟨.mem (.izy d), rfl, fun _ => rfl⟩
  | .sbcZpx d => ⟨.mem (.zpx d), rfl, fun _ => rfl⟩
  | .sbcAby a => ⟨.mem (.aby a), rfl, fun _ => rfl⟩
  | .sbcAbx a => ⟨.mem (.abx a), rfl, fun _ => rfl⟩
  | .andIzx d => ⟨.mem (.izx d), rfl, fun _ => rfl⟩
  | .andZp d => ⟨.mem (.zp d), rfl, fun _ => rfl⟩
  | .andImm v => ⟨.imm v, rfl, fun _ => rfl⟩
  | .andAbs a => ⟨.mem (.abs a), rfl, fun _ => rfl⟩
  | .andIzy d => ⟨.mem (.izy d), rfl, fun _ => rfl⟩
  | .andZpx d => ⟨.mem (.zpx d), rfl, fun _ => rfl⟩
  | .andAby a => ⟨.mem (.aby a), rfl, fun _ => rfl⟩
  | .andAbx a => ⟨.mem (.abx a), rfl, fun _ => rfl⟩
  | .oraIzx d => ⟨.mem (.izx d), rfl, fun _ => rfl⟩
  | .oraZp d => ⟨.mem (.zp d), rfl, fun _ => rfl⟩
  | .oraImm v => ⟨.imm v, rfl, fun _ => rfl⟩
  | .oraAbs a => ⟨.mem (.abs a), rfl, fun _ => rfl⟩
  | .oraIzy d => ⟨.mem (.izy d), rfl, fun _ => rfl⟩
  | .oraZpx d => ⟨.mem (.zpx d), rfl, fun _ => rfl⟩
  | .oraAby a => ⟨.mem (.aby a), rfl, fun _ => rfl⟩
  | .oraAbx a => ⟨.mem (.abx a), rfl, fun _ => rfl⟩
  | .eorIzx d => ⟨.mem (.izx d), rfl, fun _ => rfl⟩
  | .eorZp d => ⟨.mem (.zp d), rfl, fun _ => rfl⟩
  | .eorImm v => ⟨.imm v, rfl, fun _ => rfl⟩
  | .eorAbs a => ⟨.mem (.abs a), rfl, fun _ => rfl⟩
  | .eorIzy d => ⟨.mem (.izy d), rfl, fun _ => rfl⟩
  | .eorZpx d => ⟨.mem (.zpx d), rfl, fun _ => rfl⟩
  | .eorAby a => ⟨.mem (.aby a), rfl, fun _ => rfl⟩
  | .eorAbx a => ⟨.mem (.abx a), rfl, fun _ => rfl⟩
  | .cmpIzx d => ⟨.mem (.izx d), rfl, fun _ => rfl⟩
  | .cmpZp d => ⟨.mem (.zp d), rfl, fun _ => rfl⟩
  | .cmpImm v => ⟨.imm v, rfl, fun _ => rfl⟩
  | .cmpAbs a => ⟨.mem (.abs a), rfl, fun _ => rfl⟩
  | .cmpIzy d => ⟨.mem (.izy d), rfl, fun _ => rfl⟩
  | .cmpZpx d => ⟨.mem (.zpx d), rfl, fun _ => rfl⟩
  | .cmpAby a => ⟨.mem (.aby a), rfl, fun _ => rfl⟩
  | .cmpAbx a => ⟨.mem (.abx a), rfl, fun _ => rfl⟩
  | .cpxImm v => ⟨.imm v, rfl, fun _ => rfl⟩
  | .cpxZp d => ⟨.mem (.zp d), rfl, fun _ => rfl⟩
  | .cpxAbs a => ⟨.mem (.abs a), rfl, fun _ => rfl⟩
  | .cpyImm v => ⟨.imm v, rfl, fun _ => rfl⟩
  | .cpyZp d => ⟨.mem (.zp d), rfl, fun _ => rfl⟩
  | .cpyAbs a => ⟨.mem (.abs a), rfl, fun _ => rfl⟩
  | .bitZp d => ⟨.zp d, rfl, fun _ => rfl⟩
  | .bitAbs a => ⟨.abs a, rfl, fun _ => rfl⟩
  | .incZp d => ⟨.zp d, rfl, fun _ => rfl⟩
  | .incAbs a => ⟨.abs a, rfl, fun _ => rfl⟩
  | .incZpx d => ⟨.zpx d, rfl, fun _ => rfl⟩
  | .incAbx a => ⟨.abx a, rfl, fun _ => rfl⟩
  | .decZp d => ⟨.zp d, rfl, fun _ => rfl⟩
  | .decAbs a => ⟨.abs a, rfl, fun _ => rfl⟩
  | .decZpx d => ⟨.zpx d, rfl, fun _ => rfl⟩
  | .decAbx a => ⟨.abx a, rfl, fun _ => rfl⟩
  | .inx => (rfl : _ = _)
  | .iny => (rfl : _ = _)
  | .dex => (rfl : _ = _)
  | .dey => (rfl : _ = _)
  | .aslZp d => .inr ⟨.zp d, rfl, fun _ => rfl⟩
  | .aslAcc => .inl ⟨rfl, fun _ => rfl⟩
  | .aslAbs a => .inr ⟨.abs a, rfl, fun _ => rfl⟩
  | .aslZpx d => .inr ⟨.zpx d, rfl, fun _ => rfl⟩
  | .aslAbx a => .inr ⟨.abx a, rfl, fun _ => rfl⟩
  | .lsrZp d => .inr ⟨.zp d, rfl, fun _ => rfl⟩
  | .lsrAcc => .inl ⟨rfl, fun _ => rfl⟩
  | .lsrAbs a => .inr ⟨.abs a, rfl, fun _ => rfl⟩
  | .lsrZpx d => .inr ⟨.zpx d, rfl, fun _ => rfl⟩
  | .lsrAbx a => .inr ⟨.abx a, rfl, fun _ => rfl⟩
  | .rolZp d => .inr ⟨.zp d, rfl, fun _ => rfl⟩
  | .rolAcc => .inl ⟨rfl, fun _ => rfl⟩
  | .rolAbs a => .inr ⟨.abs a, rfl, fun _ => rfl⟩
  | .rolZpx d => .inr ⟨.zpx d, rfl, fun _ => rfl⟩
  | .rolAbx a => .inr ⟨.abx a, rfl, fun _ => rfl⟩
  | .rorZp d => .inr ⟨.zp d, rfl, fun _ => rfl⟩
  | .rorAcc => .inl ⟨rfl, fun _ => rfl⟩
  | .rorAbs a => .inr ⟨.abs a, rfl, fun _ => rfl⟩
  | .rorZpx d => .inr ⟨.zpx d, rfl, fun _ => rfl⟩
  | .rorAbx a => .inr ⟨.abx a, rfl, fun _ => rfl⟩
  | .bpl off => ⟨off, rfl, of_decide_eq_true rfl, rfl⟩
  | .bmi off => ⟨off, rfl, of_decide_eq_true rfl, rfl⟩
  | .bvc off => ⟨off, rfl, of_decide_eq_true rfl, rfl⟩
  | .bvs off => ⟨off, rfl, of_decide_eq_true rfl, rfl⟩
  | .bcc off => ⟨off, rfl, of_decide_eq_true rfl, rfl⟩
  | .bcs off => ⟨off, rfl, of_decide_eq_true rfl, rfl⟩
  | .bne off => ⟨off, rfl, of_decide_eq_true rfl, rfl⟩
  | .beq off => ⟨off, rfl, of_decide_eq_true rfl, rfl⟩
  | .jmpAbs a => .inl ⟨a, rfl⟩
  | .jmpInd a => .inr ⟨a, rfl⟩
  | .jsr a => ⟨a, rfl⟩
  | .rts => (rfl : _ = _)
  | .pha => (rfl : _ = _)
  | .php => (rfl : _ = _)
  | .pla => (rfl : _ = _)
  | .plp => (rfl : _ = _)
  | .clc => (rfl : _ = _)
  | .sec => (rfl : _ = _)
  | .cli => (rfl : _ = _)
  | .sei => (rfl : _ = _)
  | .cld => (rfl : _ = _)
  | .sed => (rfl : _ = _)
  | .clv => (rfl : _ = _)
  | .nop => (rfl : _ = _)
  | .brk => (rfl : _ = _)
  | .rti => (rfl : _ = _)
  | .unassigned02 => ⟨rfl, of_decide_eq_true rfl, rfl⟩
  | .unassigned03 => ⟨rfl, of_decide_eq_true rfl, rfl⟩
  | .unassigned04 => ⟨rfl, of_decide_eq_true rfl, rfl⟩
  | .unassigned07 => ⟨rfl, of_decide_eq_true rfl, rfl⟩
  | .unassigned0B => ⟨rfl, of_decide_eq_true rfl, rfl⟩
  | .unassigned0C => ⟨rfl, of_decide_eq_true rfl, rfl⟩
  | .unassigned0F => ⟨rfl, of_decide_eq_true rfl, rfl⟩
  | .unassigned12 => ⟨rfl, of_decide_eq_true rfl, rfl⟩
  | .unassigned13 => ⟨rfl, of_decide_eq_true rfl, rfl⟩
  | .unassigned14 => ⟨rfl, of_decide_eq_true rfl, rfl⟩
  | .unassigned17 => ⟨rfl, of_decide_eq_true rfl, rfl⟩
  | .unassigned1A => ⟨rfl, of_decide_eq_true rfl, rfl⟩
  | .unassigned1B => ⟨rfl, of_decide_eq_true rfl, rfl⟩
  | .unassigned1C => ⟨rfl, of_decide_eq_true rfl, rfl⟩
  | .unassigned1F => ⟨rfl, of_decide_eq_true rfl, rfl⟩
  | .unassigned22 => ⟨rfl, of_decide_eq_true rfl, rfl⟩
  | .unassigned23 => ⟨rfl, of_decide_eq_true rfl, rfl⟩
  | .unassigned27 => ⟨rfl, of_decide_eq_true rfl, rfl⟩
  | .unassigned2B => ⟨rfl, of_decide_eq_true rfl, rfl⟩
  | .unassigned2F => ⟨rfl, of_decide_eq_true rfl, rfl⟩
  | .unassigned32 => ⟨rfl, of_decide_eq_true rfl, rfl⟩
  | .unassigned33 => ⟨rfl, of_decide_eq_true rfl, rfl⟩
  | .unassigned34 => ⟨rfl, of_decide_eq_true rfl, rfl⟩
  | .unassigned37 => ⟨rfl, of_decide_eq_true rfl, rfl⟩
  | .unassigned3A => ⟨rfl, of_decide_eq_true rfl, rfl⟩
  | .unassigned3B => ⟨rfl, of_decide_eq_true rfl, rfl⟩
  | .unassigned3C => ⟨rfl, of_decide_eq_true rfl, rfl⟩
  | .unassigned3F => ⟨rfl, of_decide_eq_true rfl, rfl⟩
  | .unassigned42 => ⟨rfl, of_decide_eq_true rfl, rfl⟩
  | .unassigned43 => ⟨rfl, of_decide_eq_true rfl, rfl⟩
  | .unassigned44 => ⟨rfl, of_decide_eq_true rfl, rfl⟩
  | .unassigned47 => ⟨rfl, of_decide_eq_true rfl, rfl⟩
  | .unassigned4B => ⟨rfl, of_decide_eq_true rfl, rfl⟩
  | .unassigned4F => ⟨rfl, of_decide_eq_true rfl, rfl⟩
  | .unassigned52 => ⟨rfl, of_decide_eq_true rfl, rfl⟩
  | .unassigned53 => ⟨rfl, of_decide_eq_true rfl, rfl⟩
  | .unassigned54 => ⟨rfl, of_decide_eq_true rfl, rfl⟩
  | .unassigned57 => ⟨rfl, of_decide_eq_true rfl, rfl⟩
  | .unassigned5A => ⟨rfl, of_decide_eq_true rfl, rfl⟩
  | .unassigned5B => ⟨rfl, of_decide_eq_true rfl, rfl⟩
  | .unassigned5C => ⟨rfl, of_decide_eq_true rfl, rfl⟩
  | .unassigned5F => ⟨rfl, of_decide_eq_true rfl, rfl⟩
  | .unassigned62 => ⟨rfl, of_decide_eq_true rfl, rfl⟩
  | .unassigned63 => ⟨rfl, of_decide_eq_true rfl, rfl⟩
  | .unassigned64 => ⟨rfl, of_decide_eq_true rfl, rfl⟩
  | .unassigned67 => ⟨rfl, of_decide_eq_true rfl, rfl⟩
  | .unassigned6B => ⟨rfl, of_decide_eq_true rfl, rfl⟩
  | .unassigned6F => ⟨rfl, of_decide_eq_true rfl, rfl⟩
  | .unassigned72 => ⟨rfl, of_decide_eq_true rfl, rfl⟩
  | .unassigned73 => ⟨rfl, of_decide_eq_true rfl, rfl⟩
  | .unassigned74 => ⟨rfl, of_decide_eq_true rfl, rfl⟩
  | .unassigned77 => ⟨rfl, of_decide_eq_true rfl, rfl⟩
  | .unassigned7A => ⟨rfl, of_decide_eq_true rfl, rfl⟩
  | .unassigned7B => ⟨rfl, of_decide_eq_true rfl, rfl⟩
  | .unassigned7C => ⟨rfl, of_decide_eq_true rfl, rfl⟩
  | .unassigned7F => ⟨rfl, of_decide_eq_true rfl, rfl⟩
  | .unassigned80 => ⟨rfl, of_decide_eq_true rfl, rfl⟩
  | .unassigned82 => ⟨rfl, of_decide_eq_true rfl, rfl⟩
  | .unassigned83 => ⟨rfl, of_decide_eq_true rfl, rfl⟩
  | .unassigned87 => ⟨rfl, of_decide_eq_true rfl, rfl⟩
  | .unassigned89 => ⟨rfl, of_decide_eq_true rfl, rfl⟩
  | .unassigned8B => ⟨rfl, of_decide_eq_true rfl, rfl⟩
  | .unassigned8F => ⟨rfl, of_decide_eq_true rfl, rfl⟩
  | .unassigned92 => ⟨rfl, of_decide_eq_true rfl, rfl⟩
  | .unassigned93 => ⟨rfl, of_decide_eq_true rfl, rfl⟩
  | .unassigned97 => ⟨rfl, of_decide_eq_true rfl, rfl⟩
  | .unassigned9B => ⟨rfl, of_decide_eq_true rfl, rfl⟩
  | .unassigned9C => ⟨rfl, of_decide_eq_true rfl, rfl⟩
  | .unassigned9E => ⟨rfl, of_decide_eq_true rfl, rfl⟩
  | .unassigned9F => ⟨rfl, of_decide_eq_true rfl, rfl⟩
  | .unassignedA3 => ⟨rfl, of_decide_eq_true rfl, rfl⟩
  | .unassignedA7 => ⟨rfl, of_decide_eq_true rfl, rfl⟩
  | .unassignedAB => ⟨rfl, of_decide_eq_true rfl, rfl⟩
  | .unassignedAF => ⟨rfl, of_decide_eq_true rfl, rfl⟩
  | .unassignedB2 => ⟨rfl, of_decide_eq_true rfl, rfl⟩
  | .unassignedB3 => ⟨rfl, of_decide_eq_true rfl, rfl⟩
  | .unassignedB7 => ⟨rfl, of_decide_eq_true rfl, rfl⟩
  | .unassignedBB => ⟨rfl, of_decide_eq_true rfl, rfl⟩
  | .unassignedBF => ⟨rfl, of_decide_eq_true rfl, rfl⟩
  | .unassignedC2 => ⟨rfl, of_decide_eq_true rfl, rfl⟩
  | .unassignedC3 => ⟨rfl, of_decide_eq_true rfl, rfl⟩
  | .unassignedC7 => ⟨rfl, of_decide_eq_true rfl, rfl⟩
  | .unassignedCB => ⟨rfl, of_decide_eq_true rfl, rfl⟩
  | .unassignedCF => ⟨rfl, of_decide_eq_true rfl, rfl⟩
  | .unassignedD2 => ⟨rfl, of_decide_eq_true rfl, rfl⟩
  | .unassignedD3 => ⟨rfl, of_decide_eq_true rfl, rfl⟩
  | .unassignedD4 => ⟨rfl, of_decide_eq_true rfl, rfl⟩
  | .unassignedD7 => ⟨rfl, of_decide_eq_true rfl, rfl⟩
  | .unassignedDA => ⟨rfl, of_decide_eq_true rfl, rfl⟩
  | .unassignedDB => ⟨rfl, of_decide_eq_true rfl, rfl⟩
  | .unassignedDC => ⟨rfl, of_decide_eq_true rfl, rfl⟩
  | .unassignedDF => ⟨rfl, of_decide_eq_true rfl, rfl⟩
  | .unassignedE2 => ⟨rfl, of_decide_eq_true rfl, rfl⟩
  | .unassignedE3 => ⟨rfl, of_decide_eq_true rfl, rfl⟩
  | .unassignedE7 => ⟨rfl, of_decide_eq_true rfl, rfl⟩
  | .unassignedEB => ⟨rfl, of_decide_eq_true rfl, rfl⟩
  | .unassignedEF => ⟨rfl, of_decide_eq_true rfl, rfl⟩
  | .unassignedF2 => ⟨rfl, of_decide_eq_true rfl, rfl⟩
  | .unassignedF3 => ⟨rfl, of_decide_eq_true rfl, rfl⟩
  | .unassignedF4 => ⟨rfl, of_decide_eq_true rfl, rfl⟩
  | .unassignedF7 => ⟨rfl, of_decide_eq_true rfl, rfl⟩
  | .unassignedFA => ⟨rfl, of_decide_eq_true rfl, rfl⟩
  | .unassignedFB => ⟨rfl, of_decide_eq_true rfl, rfl⟩
  | .unassignedFC => ⟨rfl, of_decide_eq_true rfl, rfl⟩
  | .unassignedFF => ⟨rfl, of_decide_eq_true rfl, rfl⟩

end Sys2Proof.Laws
end

