-- ==== Sys2Proof/Laws/Operands.lean ====
section
/-!
SUPPORT. The laws of the operand forms and of each operation: what it answers, as one equation, which the proofs about
instructions cite instead of unfolding the operation.
-/

namespace Sys2Proof.Laws

open Sys2Proof.Machine

/-! ## Data reads -/

theorem readOperand_effects (o : Operand) (s : State) : OnlyReadEffects s (readOperand o s).2 := by
  cases o
  · rfl
  · exact memRead_effects s _

variable (s : State) (o : Operand) (m : MemMode) (n : Nat)

@[simp] theorem readOperand_a : (readOperand o s).2.a = s.a := by rw [readOperand_effects]
@[simp] theorem readOperand_x : (readOperand o s).2.x = s.x := by rw [readOperand_effects]
@[simp] theorem readOperand_y : (readOperand o s).2.y = s.y := by rw [readOperand_effects]
@[simp] theorem readOperand_sp : (readOperand o s).2.sp = s.sp := by rw [readOperand_effects]
@[simp] theorem readOperand_pc : (readOperand o s).2.pc = s.pc := by rw [readOperand_effects]
@[simp] theorem readOperand_p : (readOperand o s).2.p = s.p := by rw [readOperand_effects]
@[simp] theorem readOperand_nmiPending : (readOperand o s).2.nmiPending = s.nmiPending := by rw [readOperand_effects]
@[simp] theorem readOperand_irqPending : (readOperand o s).2.irqPending = s.irqPending := by rw [readOperand_effects]
@[simp] theorem readOperand_ram : (readOperand o s).2.ram = s.ram := by rw [readOperand_effects]
@[simp] theorem readOperand_cartridgeAttached : (readOperand o s).2.cartridgeAttached = s.cartridgeAttached := by rw [readOperand_effects]
@[simp] theorem readOperand_cart : (readOperand o s).2.cart = s.cart := by rw [readOperand_effects]
@[simp] theorem readOperand_seq : (readOperand o s).2.seq = s.seq := by rw [readOperand_effects]
@[simp] theorem readOperand_params : (readOperand o s).2.params = s.params := by rw [readOperand_effects]
@[simp] theorem readOperand_ppu_oam : (readOperand o s).2.ppu.oam = s.ppu.oam := by rw [readOperand_effects]
@[simp] theorem readOperand_ppu_frameBuffer : (readOperand o s).2.ppu.frameBuffer = s.ppu.frameBuffer := by rw [readOperand_effects]
@[simp] theorem readOperand_ppu_nameTableRAM : (readOperand o s).2.ppu.nameTableRAM = s.ppu.nameTableRAM := by rw [readOperand_effects]
@[simp] theorem readOperand_ppu_paletteRAM : (readOperand o s).2.ppu.paletteRAM = s.ppu.paletteRAM := by rw [readOperand_effects]
@[simp] theorem readOperand_buttonMask : (readOperand o s).2.joypad.buttonMask = s.joypad.buttonMask := by rw [readOperand_effects]

theorem readOperand_writeEffects : OnlyWriteEffects s (readOperand o s).2 := by
  cases o
  · exact OnlyWriteEffects.refl s
  · exact memRead_writeEffects s _

theorem readOperand_mem : readOperand (.mem m) s = memRead s (effAddr m s) := rfl

/-! ## Zero page and effective addresses -/

theorem zeroPage_eq (z : Byte) : zeroPage s z = s.ram.read z.toNat := by
  have := z.isLt
  rw [zeroPage, memRead_at_ram s (by simp; omega), toNat_u16]
  simp only [show (0x00 : Byte).toNat = 0 from rfl, Nat.zero_mul, Nat.zero_add]
  rw [Nat.mod_eq_of_lt (by omega)]

/-- A shared operation's answer does not depend on anything but the units, the index registers and its operand. -/
theorem effAddr_congr {s t : State} (hx : t.x = s.x) (hy : t.y = s.y) (hr : t.ram = s.ram) : effAddr m t = effAddr m s := by
  cases m <;> simp [effAddr, zeroPagePointer, zeroPage_eq, hx, hy, hr]

/-! ## One equation per operation -/

theorem ldaOp_eq : ldaOp o n s = .next
    { (readOperand o s).2 with a := (readOperand o s).1, p := znStatus s.p (readOperand o s).1, cycles := n } := by
  simp only [ldaOp, complete, State.setCycles, setZN, State.setA, State.setP, readOperand_p]

theorem ldxOp_eq : ldxOp o n s = .next
    { (readOperand o s).2 with x := (readOperand o s).1, p := znStatus s.p (readOperand o s).1, cycles := n } := by
  simp only [ldxOp, complete, State.setCycles, setZN, State.setX, State.setP, readOperand_p]

theorem ldyOp_eq : ldyOp o n s = .next
    { (readOperand o s).2 with y := (readOperand o s).1, p := znStatus s.p (readOperand o s).1, cycles := n } := by
  simp only [ldyOp, complete, State.setCycles, setZN, State.setY, State.setP, readOperand_p]

theorem staOp_eq : staOp m n s = .next
    { memWrite s (effAddr m s) s.a with cycles := n } := by
  simp only [staOp, storeByte, complete, State.setCycles]

theorem stxOp_eq : stxOp m n s = .next
    { memWrite s (effAddr m s) s.x with cycles := n } := by
  simp only [stxOp, storeByte, complete, State.setCycles]

theorem styOp_eq : styOp m n s = .next
    { memWrite s (effAddr m s) s.y with cycles := n } := by
  simp only [styOp, storeByte, complete, State.setCycles]

theorem taxOp_eq : taxOp n s = .next
    { s with x := s.a, p := znStatus s.p s.a, cycles := n } := by
  simp only [taxOp, complete, State.setCycles, setZN, State.setX, State.setP]

theorem tayOp_eq : tayOp n s = .next
    { s with y := s.a, p := znStatus s.p s.a, cycles := n } := by
  simp only [tayOp, complete, State.setCycles, setZN, State.setY, State.setP]

theorem txaOp_eq : txaOp n s = .next
    { s with a := s.x, p := znStatus s.p s.x, cycles := n } := by
  simp only [txaOp, complete, State.setCycles, setZN, State.setA, State.setP]

theorem tyaOp_eq : tyaOp n s = .next
    { s with a := s.y, p := znStatus s.p s.y, cycles := n } := by
  simp only [tyaOp, complete, State.setCycles, setZN, State.setA, State.setP]

theorem tsxOp_eq : tsxOp n s = .next
    { s with x := s.sp, p := znStatus s.p s.sp, cycles := n } := by
  simp only [tsxOp, complete, State.setCycles, setZN, State.setX, State.setP]

theorem txsOp_eq : txsOp n s = .next
    { s with sp := s.x, cycles := n } := by
  simp only [txsOp, complete, State.setCycles, State.setSp]

theorem adcOp_eq : adcOp o n s = .next
    { (readOperand o s).2 with a := adcResult s.a (readOperand o s).1 (s.flag .C), p := adcStatus s.p s.a (readOperand o s).1, cycles := n } := by
  simp only [adcOp, addWithCarry, State.flag, complete, State.setCycles, State.setA, State.setP, readOperand_p, readOperand_a]

theorem sbcOp_eq : sbcOp o n s = .next
    { (readOperand o s).2 with a := adcResult s.a ((readOperand o s).1 ^^^ 0xFF) (s.flag .C), p := adcStatus s.p s.a ((readOperand o s).1 ^^^ 0xFF), cycles := n } := by
  simp only [sbcOp, addWithCarry, State.flag, complete, State.setCycles, State.setA, State.setP, readOperand_p, readOperand_a]

theorem andOp_eq : andOp o n s = .next
    { (readOperand o s).2 with a := s.a &&& (readOperand o s).1, p := znStatus s.p (s.a &&& (readOperand o s).1), cycles := n } := by
  simp only [andOp, complete, State.setCycles, setZN, State.setA, State.setP, readOperand_p, readOperand_a]

theorem oraOp_eq : oraOp o n s = .next
    { (readOperand o s).2 with a := s.a ||| (readOperand o s).1, p := znStatus s.p (s.a ||| (readOperand o s).1), cycles := n } := by
  simp only [oraOp, complete, State.setCycles, setZN, State.setA, State.setP, readOperand_p, readOperand_a]

theorem eorOp_eq : eorOp o n s = .next
    { (readOperand o s).2 with a := s.a ^^^ (readOperand o s).1, p := znStatus s.p (s.a ^^^ (readOperand o s).1), cycles := n } := by
  simp only [eorOp, complete, State.setCycles, setZN, State.setA, State.setP, readOperand_p, readOperand_a]

theorem cmpOp_eq : cmpOp o n s = .next
    { (readOperand o s).2 with p := compareStatus s.p s.a (readOperand o s).1, cycles := n } := by
  simp only [cmpOp, complete, State.setCycles, State.setP, readOperand_p, readOperand_a]

theorem cpxOp_eq : cpxOp o n s = .next
    { (readOperand o s).2 with p := compareStatus s.p s.x (readOperand o s).1, cycles := n } := by
  simp only [cpxOp, complete, State.setCycles, State.setP, readOperand_p, readOperand_x]

theorem cpyOp_eq : cpyOp o n s = .next
    { (readOperand o s).2 with p := compareStatus s.p s.y (readOperand o s).1, cycles := n } := by
  simp only [cpyOp, complete, State.setCycles, State.setP, readOperand_p, readOperand_y]

theorem bitOp_eq : bitOp o n s = .next
    { (readOperand o s).2 with p := bitStatus s.p s.a (readOperand o s).1, cycles := n } := by
  simp only [bitOp, complete, State.setCycles, State.setP, readOperand_p, readOperand_a]

theorem modifyMem_eq (f : Byte → Byte → Byte × Byte) : modifyMem f m n s = .next
    { memWrite { (readOperand (.mem m) s).2 with p := (f (readOperand (.mem m) s).1 s.p).2 } (effAddr m s)
        (f (readOperand (.mem m) s).1 s.p).1 with cycles := n } := by
  simp only [modifyMem, complete, readOperand_mem, State.setP, State.setCycles, memRead_p]

/-- The same with the status outermost: the write does not depend on it. -/
theorem modifyMem_eq' (f : Byte → Byte → Byte × Byte) : modifyMem f m n s = .next
    { memWrite (readOperand (.mem m) s).2 (effAddr m s) (f (readOperand (.mem m) s).1 s.p).1 with
      p := (f (readOperand (.mem m) s).1 s.p).2, cycles := n } := by
  rw [modifyMem_eq]
  exact congrArg (fun t : State => Host.Outcome.next (t.setCycles n)) (memWrite_setP _ _ _ _)

theorem modifyAcc_eq (f : Byte → Byte → Byte × Byte) :
    modifyAcc f n s = .next { s with a := (f s.a s.p).1, p := (f s.a s.p).2, cycles := n } := rfl

theorem branchOn_eq (cond : Bool) (off : Byte) : branchOn cond off s = .next (
    if cond then { s with pc := s.pc + sext8 off, cycles := if hi8 (s.pc + sext8 off) ≠ hi8 s.pc then 4 else 3 }
    else { s with cycles := 2 }) := by
  cases cond <;> rfl

theorem inxOp_eq : inxOp n s = .next
    { s with x := s.x + 1, p := znStatus s.p (s.x + 1), cycles := n } := by
  simp only [inxOp, complete, State.setCycles, setZN, State.setX, State.setP]

theorem inyOp_eq : inyOp n s = .next
    { s with y := s.y + 1, p := znStatus s.p (s.y + 1), cycles := n } := by
  simp only [inyOp, complete, State.setCycles, setZN, State.setY, State.setP]

theorem dexOp_eq : dexOp n s = .next
    { s with x := s.x - 1, p := znStatus s.p (s.x - 1), cycles := n } := by
  simp only [dexOp, complete, State.setCycles, setZN, State.setX, State.setP]

theorem deyOp_eq : deyOp n s = .next
    { s with y := s.y - 1, p := znStatus s.p (s.y - 1), cycles := n } := by
  simp only [deyOp, complete, State.setCycles, setZN, State.setY, State.setP]

theorem jmpOpInd_eq (a : Word) : jmpOpInd a n s = .next
    { (indirectTarget a s).2 with pc := (indirectTarget a s).1, cycles := n } := rfl

theorem jsrOp_eq (w : Word) : jsrOp w n s = .next { s with
    ram := (s.ram.write (0x100 + s.sp.toNat) (hi8 (s.pc - 1))).write (0x100 + (s.sp - 1).toNat) (lo8 (s.pc - 1)),
    sp := s.sp - 2, pc := w, cycles := n } := by
  simp only [jsrOp, complete, pushWord_eq, State.setPc, State.setCycles]

theorem rtsOp_eq : rtsOp n s = .next { s with
    sp := s.sp + 2,
    pc := u16 (s.ram.read (0x100 + (s.sp + 2).toNat)) (s.ram.read (0x100 + (s.sp + 1).toNat)) + 1, cycles := n } := by
  simp only [rtsOp, complete, popWord_eq, State.setPc, State.setCycles]

theorem phaOp_eq : phaOp n s = .next { s with
    ram := s.ram.write (0x100 + s.sp.toNat) s.a, sp := s.sp - 1, cycles := n } := by
  simp only [phaOp, complete, push_eq, State.setCycles]

theorem phpOp_eq : phpOp n s = .next { s with
    ram := s.ram.write (0x100 + s.sp.toNat) (softwareStatus s.p), sp := s.sp - 1, cycles := n } := by
  simp only [phpOp, complete, push_eq, State.setCycles]

theorem plaOp_eq : plaOp n s = .next { s with
    a := s.ram.read (0x100 + (s.sp + 1).toNat), sp := s.sp + 1,
    p := znStatus s.p (s.ram.read (0x100 + (s.sp + 1).toNat)), cycles := n } := by
  simp only [plaOp, complete, pop_eq, setZN, State.setA, State.setP, State.setCycles]

theorem plpOp_eq : plpOp n s = .next { s with
    sp := s.sp + 1, p := pulledStatus (s.ram.read (0x100 + (s.sp + 1).toNat)), cycles := n } := by
  simp only [plpOp, complete, pop_eq, State.setP, State.setCycles]

theorem brkOp_eq : brkOp n s = .next { s with
    ram := pushedFrame s (s.pc + 1) (softwareStatus s.p), sp := s.sp - 3, p := putFlag s.p .I true,
    pc := u16 (memRead s 0xFFFF).1 (memRead s 0xFFFE).1, cycles := n } := by
  rw [brkOp, enterException_eq _ _ _ (by decide) (by decide)]
  rw [memRead_at_prgRom _ (by decide), memRead_at_prgRom _ (by decide), memRead_at_prgRom _ (by decide),
    memRead_at_prgRom _ (by decide)]
  rfl

theorem rtiOp_eq : rtiOp n s = .next { s with
    sp := s.sp + 3, p := pulledStatus (s.ram.read (0x100 + (s.sp + 1).toNat)),
    pc := u16 (s.ram.read (0x100 + (s.sp + 3).toNat)) (s.ram.read (0x100 + (s.sp + 2).toNat)), cycles := n } := by
  rw [rtiOp, returnFromException_eq]; rfl

end Sys2Proof.Laws
end

