-- ==== Sys2Proof/Laws/Exec.lean ====
section
/-!
SUPPORT. Everything any instruction can do, in one lemma: the registers apart, an instruction changes the machine as a bus
access does; and the forms of the memories and of the status register stay.
-/

namespace Sys2Proof.Laws

open Sys2Proof.Machine

/-- The form of the status register (R14). -/
def StatusForm (p : Byte) : Prop := flagOf p .B = false ∧ flagOf p .U = true

theorem StatusForm.of_flags {p q : Byte} (h : StatusForm p) (hb : flagOf q .B = flagOf p .B)
    (hu : flagOf q .U = flagOf p .U) : StatusForm q := ⟨hb.trans h.1, hu.trans h.2⟩

theorem statusForm_pulled (v : Byte) : StatusForm (pulledStatus v) := by
  constructor <;> rw [flagOf_pulledStatus]

theorem statusForm_zn {p : Byte} (v : Byte) (h : StatusForm p) : StatusForm (znStatus p v) :=
  h.of_flags (by rw [flagOf_znStatus]; rfl) (by rw [flagOf_znStatus]; rfl)

theorem statusForm_adc {p : Byte} (a m : Byte) (h : StatusForm p) : StatusForm (adcStatus p a m) :=
  h.of_flags (by rw [flagOf_adcStatus]) (by rw [flagOf_adcStatus])

theorem statusForm_compare {p : Byte} (a m : Byte) (h : StatusForm p) : StatusForm (compareStatus p a m) :=
  h.of_flags (by rw [flagOf_compareStatus]) (by rw [flagOf_compareStatus])

theorem statusForm_bit {p : Byte} (a m : Byte) (h : StatusForm p) : StatusForm (bitStatus p a m) :=
  h.of_flags (by rw [flagOf_bitStatus]) (by rw [flagOf_bitStatus])

theorem statusForm_shift {p : Byte} (r : Byte × Bool) (h : StatusForm p) : StatusForm (shiftStatus p r) :=
  h.of_flags (by rw [flagOf_shiftStatus]) (by rw [flagOf_shiftStatus])

theorem statusForm_put {p : Byte} (f : Flag) (v : Bool) (hf : f ≠ .B ∧ f ≠ .U) (h : StatusForm p) :
    StatusForm (putFlag p f v) :=
  h.of_flags (by rw [flagOf_putFlag, if_neg hf.1]) (by rw [flagOf_putFlag, if_neg hf.2])

/-- A count that a CPU step may return: a base cycle count of the parameters (R88), or 2 to 7 (R150, R186, R280). -/
def Counted (params : Params) (n : Nat) : Prop := (∃ op, n = baseCount params op) ∨ 2 ≤ n ∧ n ≤ 7

theorem counted_base (params : Params) (op : Byte) : Counted params (baseCount params op) := .inl ⟨op, rfl⟩

/-- Bounds of the base cycle counts that leave room for 2 to 7 are bounds of every count. -/
theorem Counted.bounds {params : Params} {n lo hi : Nat} (h : Counted params n) (hlo : lo ≤ 2) (hhi : 7 ≤ hi)
    (hb : ∀ op, lo ≤ baseCount params op ∧ baseCount params op ≤ hi) : lo ≤ n ∧ n ≤ hi := by
  obtain ⟨op, rfl⟩ | h := h
  · exact hb op
  · omega

/-- What an accepted access of the bus leaves: its effects, and the forms of the memories. -/
def BusEffects (s u : State) : Prop := OnlyWriteEffects s u ∧ (Forms s → Forms u)

theorem BusEffects.refl (s : State) : BusEffects s s := ⟨.refl s, id⟩

theorem BusEffects.trans {s t u : State} (h : BusEffects s t) (h' : BusEffects t u) : BusEffects s u :=
  ⟨h.1.trans h'.1, fun hs => h'.2 (h.2 hs)⟩

theorem busEffects_memRead (s : State) (a : Word) : BusEffects s (memRead s a).2 :=
  ⟨memRead_writeEffects s a, fun h => h.memRead a⟩

theorem busEffects_memWrite (s : State) (a : Word) (v : Byte) : BusEffects s (memWrite s a v) :=
  ⟨memWrite_writeEffects s a v, fun h => h.memWrite a v⟩

theorem busEffects_readOperand (s : State) (o : Operand) : BusEffects s (readOperand o s).2 := by
  cases o
  · exact .refl s
  · exact busEffects_memRead s _

/-- The stack pushes bytes of work RAM. -/
theorem busEffects_push (s : State) (sp v : Byte) : BusEffects s (s.setRam (s.ram.write (0x100 + sp.toNat) v)) := by
  have := busEffects_memWrite s (stackAddr sp) v
  rwa [memWrite_stack] at this

/-- The answer of an instruction. -/
structure Answer (s t : State) : Prop where
  /-- The registers apart, what a bus access leaves. -/
  bus : ∃ u : State, BusEffects s u ∧
    t = { u with a := t.a, x := t.x, y := t.y, sp := t.sp, pc := t.pc, p := t.p, cycles := t.cycles }
  status : StatusForm s.p → StatusForm t.p
  cycles : Counted s.params t.cycles

theorem answer_read {s : State} {o : Operand} {a x y p : Byte} {n : Nat} (hp : StatusForm s.p → StatusForm p)
    (hn : Counted s.params n) : Answer s { (readOperand o s).2 with a := a, x := x, y := y, p := p, cycles := n } :=
  ⟨⟨_, busEffects_readOperand s o, rfl⟩, hp, hn⟩

theorem answer_store {s : State} {m : MemMode} {v : Byte} {n : Nat} (hn : Counted s.params n) :
    Answer s { memWrite s (effAddr m s) v with cycles := n } :=
  ⟨⟨_, busEffects_memWrite s _ v, rfl⟩, fun h => by simpa using h, hn⟩

theorem answer_modify {s : State} {m : MemMode} {v p : Byte} {n : Nat} (hp : StatusForm s.p → StatusForm p)
    (hn : Counted s.params n) :
    Answer s { memWrite (readOperand (.mem m) s).2 (effAddr m s) v with p := p, cycles := n } :=
  ⟨⟨_, (busEffects_readOperand s _).trans (busEffects_memWrite _ _ v), rfl⟩, hp, hn⟩

theorem answer_regs {s : State} {a x y sp p : Byte} {pc : Word} {n : Nat} (hp : StatusForm s.p → StatusForm p)
    (hn : Counted s.params n) :
    Answer s { s with a := a, x := x, y := y, sp := sp, pc := pc, p := p, cycles := n } :=
  ⟨⟨_, .refl s, rfl⟩, hp, hn⟩

theorem answer_pushed {s : State} {a sp p v : Byte} {pc : Word} {n : Nat} (hp : StatusForm s.p → StatusForm p)
    (hn : Counted s.params n) :
    Answer s { s with
      a := a, sp := sp, pc := pc, p := p, cycles := n, ram := s.ram.write (0x100 + s.sp.toNat) v } :=
  ⟨⟨_, busEffects_push s _ v, rfl⟩, hp, hn⟩

theorem busEffects_pushedWord (s : State) (w : Word) : BusEffects s (s.setRam
    ((s.ram.write (0x100 + s.sp.toNat) (hi8 w)).write (0x100 + (s.sp - 1).toNat) (lo8 w))) :=
  (busEffects_push s s.sp (hi8 w)).trans (busEffects_push _ (s.sp - 1) (lo8 w))

theorem busEffects_pushedFrame (s : State) (pc : Word) (status : Byte) :
    BusEffects s (s.setRam (pushedFrame s pc status)) :=
  (busEffects_pushedWord s pc).trans (busEffects_push _ (s.sp - 2) status)

theorem busEffects_indirectTarget (s : State) (w : Word) : BusEffects s (indirectTarget w s).2 :=
  (busEffects_memRead s _).trans (busEffects_memRead _ _)

theorem answer_branch (s : State) (cond : Bool) (off : Byte) : ∃ t, branchOn cond off s = .next t ∧ Answer s t := by
  refine ⟨_, branchOn_eq s cond off, ?_⟩
  cases cond
  · exact answer_regs id (.inr (by decide))
  · refine answer_regs id (.inr ?_)
    split <;> decide

/-- Every instruction answers a next state, and everything it can do to the machine. -/
theorem exec_answer (i : Instr) (s : State) : ∃ t, exec i s = .next t ∧ Answer s t := by
  have h := exec_meaning i
  unfold Meaning at h
  split at h
  case h_1 => obtain ⟨o, -, h3⟩ := h; exact ⟨_, (h3 s).trans (ldaOp_eq ..), answer_read (statusForm_zn _) (counted_base ..)⟩
  case h_2 => obtain ⟨o, -, h3⟩ := h; exact ⟨_, (h3 s).trans (ldxOp_eq ..), answer_read (statusForm_zn _) (counted_base ..)⟩
  case h_3 => obtain ⟨o, -, h3⟩ := h; exact ⟨_, (h3 s).trans (ldyOp_eq ..), answer_read (statusForm_zn _) (counted_base ..)⟩
  case h_4 => obtain ⟨o, -, h3⟩ := h; exact ⟨_, (h3 s).trans (adcOp_eq ..), answer_read (statusForm_adc _ _) (counted_base ..)⟩
  case h_5 => obtain ⟨o, -, h3⟩ := h; exact ⟨_, (h3 s).trans (sbcOp_eq ..), answer_read (statusForm_adc _ _) (counted_base ..)⟩
  case h_6 => obtain ⟨o, -, h3⟩ := h; exact ⟨_, (h3 s).trans (andOp_eq ..), answer_read (statusForm_zn _) (counted_base ..)⟩
  case h_7 => obtain ⟨o, -, h3⟩ := h; exact ⟨_, (h3 s).trans (oraOp_eq ..), answer_read (statusForm_zn _) (counted_base ..)⟩
  case h_8 => obtain ⟨o, -, h3⟩ := h; exact ⟨_, (h3 s).trans (eorOp_eq ..), answer_read (statusForm_zn _) (counted_base ..)⟩
  case h_9 => obtain ⟨o, -, h3⟩ := h; exact ⟨_, (h3 s).trans (cmpOp_eq ..), answer_read (statusForm_compare _ _) (counted_base ..)⟩
  case h_10 => obtain ⟨o, -, h3⟩ := h; exact ⟨_, (h3 s).trans (cpxOp_eq ..), answer_read (statusForm_compare _ _) (counted_base ..)⟩
  case h_11 => obtain ⟨o, -, h3⟩ := h; exact ⟨_, (h3 s).trans (cpyOp_eq ..), answer_read (statusForm_compare _ _) (counted_base ..)⟩
  case h_12 => obtain ⟨m, -, h3⟩ := h; exact ⟨_, (h3 s).trans (bitOp_eq ..), answer_read (statusForm_bit _ _) (counted_base ..)⟩
  case h_13 => obtain ⟨m, -, h3⟩ := h; exact ⟨_, (h3 s).trans (staOp_eq ..), answer_store (counted_base ..)⟩
  case h_14 => obtain ⟨m, -, h3⟩ := h; exact ⟨_, (h3 s).trans (stxOp_eq ..), answer_store (counted_base ..)⟩
  case h_15 => obtain ⟨m, -, h3⟩ := h; exact ⟨_, (h3 s).trans (styOp_eq ..), answer_store (counted_base ..)⟩
  case h_16 => obtain ⟨m, -, h3⟩ := h; exact ⟨_, (h3 s).trans (modifyMem_eq' ..), answer_modify (statusForm_zn _) (counted_base ..)⟩
  case h_17 => obtain ⟨m, -, h3⟩ := h; exact ⟨_, (h3 s).trans (modifyMem_eq' ..), answer_modify (statusForm_zn _) (counted_base ..)⟩
  all_goals first
    | (obtain ⟨-, h3⟩ | ⟨m, -, h3⟩ := h
       · exact ⟨_, (h3 s).trans (modifyAcc_eq ..), answer_regs (statusForm_shift _) (counted_base ..)⟩
       · exact ⟨_, (h3 s).trans (modifyMem_eq' ..), answer_modify (statusForm_shift _) (counted_base ..)⟩)
    | (obtain ⟨off, -, -, h3⟩ := h
       rw [h3]; exact answer_branch s _ off)
    | skip
  case h_30 =>
    obtain ⟨a, rfl⟩ | ⟨a, rfl⟩ := h
    · exact ⟨_, rfl, answer_regs id (counted_base ..)⟩
    · exact ⟨_, jmpOpInd_eq .., ⟨⟨_, busEffects_indirectTarget s a, rfl⟩, fun h => by simpa [indirectTarget] using h, counted_base ..⟩⟩
  case h_31 =>
    obtain ⟨a, rfl⟩ := h
    exact ⟨_, jsrOp_eq .., ⟨⟨_, busEffects_pushedWord s _, rfl⟩, id, counted_base ..⟩⟩
  case h_32 => subst h; exact ⟨_, taxOp_eq .., answer_regs (statusForm_zn _) (counted_base ..)⟩
  case h_33 => subst h; exact ⟨_, tayOp_eq .., answer_regs (statusForm_zn _) (counted_base ..)⟩
  case h_34 => subst h; exact ⟨_, txaOp_eq .., answer_regs (statusForm_zn _) (counted_base ..)⟩
  case h_35 => subst h; exact ⟨_, tyaOp_eq .., answer_regs (statusForm_zn _) (counted_base ..)⟩
  case h_36 => subst h; exact ⟨_, tsxOp_eq .., answer_regs (statusForm_zn _) (counted_base ..)⟩
  case h_37 => subst h; exact ⟨_, txsOp_eq .., answer_regs id (counted_base ..)⟩
  case h_38 => subst h; exact ⟨_, inxOp_eq .., answer_regs (statusForm_zn _) (counted_base ..)⟩
  case h_39 => subst h; exact ⟨_, inyOp_eq .., answer_regs (statusForm_zn _) (counted_base ..)⟩
  case h_40 => subst h; exact ⟨_, dexOp_eq .., answer_regs (statusForm_zn _) (counted_base ..)⟩
  case h_41 => subst h; exact ⟨_, deyOp_eq .., answer_regs (statusForm_zn _) (counted_base ..)⟩
  case h_42 => subst h; exact ⟨_, rtsOp_eq .., answer_regs id (counted_base ..)⟩
  case h_43 => subst h; exact ⟨_, phaOp_eq .., answer_pushed id (counted_base ..)⟩
  case h_44 => subst h; exact ⟨_, phpOp_eq .., answer_pushed id (counted_base ..)⟩
  case h_45 => subst h; exact ⟨_, plaOp_eq .., answer_regs (statusForm_zn _) (counted_base ..)⟩
  case h_46 => subst h; exact ⟨_, plpOp_eq .., answer_regs (fun _ => statusForm_pulled _) (counted_base ..)⟩
  case h_55 => subst h; exact ⟨_, brkOp_eq .., ⟨⟨_, busEffects_pushedFrame s _ _, rfl⟩, statusForm_put _ _ (by decide), counted_base ..⟩⟩
  case h_56 => subst h; exact ⟨_, rtiOp_eq .., answer_regs (fun _ => statusForm_pulled _) (counted_base ..)⟩
  case h_57 => obtain ⟨-, -, h3⟩ := h; exact ⟨_, congrFun h3 s, answer_regs id (.inr (by decide))⟩
  case h_54 => subst h; exact ⟨_, rfl, answer_regs id (counted_base ..)⟩
  all_goals subst h; exact ⟨_, rfl, answer_regs (statusForm_put _ _ (by decide)) (counted_base ..)⟩

end Sys2Proof.Laws
end

