-- ==== Sys2Proof/Laws/Bus.lean ====
section
/-!
SUPPORT. What a bus access leaves unchanged, byte by byte: the CPU's memories, video memory, OAM.
-/

namespace Sys2Proof.Laws

open Sys2Proof.Machine

/-- A PPU port write leaves both CPU memories. -/
theorem ppuRegWrite_mem (s : State) (r : Nat) (v : Byte) :
    (ppuRegWrite s r v).ram = s.ram ∧ (ppuRegWrite s r v).cart.prgRAM = s.cart.prgRAM := by
  unfold ppuRegWrite writeControl writeMask writeOamAddress writeOamData writeScroll writeVideoAddress writeVideoData incVram
  repeat' split
  all_goals first | exact ⟨rfl, rfl⟩ | (constructor <;> simp)

/-- What an OAM DMA leaves. -/
theorem oamDma_rest (s : State) (v : Byte) : (oamDma v s).ram = s.ram ∧ (oamDma v s).cart = s.cart ∧
    (oamDma v s).ppu.nameTableRAM = s.ppu.nameTableRAM ∧ (oamDma v s).ppu.paletteRAM = s.ppu.paletteRAM ∧
    (oamDma v s).ppu.oamAddress = s.ppu.oamAddress ∧ (oamDma v s).ppu.control = s.ppu.control := by
  unfold oamDma
  generalize List.range 256 = l
  induction l generalizing s with
  | nil => exact ⟨rfl, rfl, rfl, rfl, rfl, rfl⟩
  | cons k l ih =>
    obtain ⟨a, b, c, d, e, f⟩ := ih (oamDmaStep v s k)
    simp only [List.foldl_cons]
    rw [a, b, c, d, e, f]
    simp [oamDmaStep]

/-- The byte that a memory address reads as. -/
theorem memRead_byte {s : State} {b : Word} (h : isMemory b = true) : (memRead s b).1 =
    if b.toNat < 0x2000 then s.ram.read (b.toNat % 0x800) else if b.toNat < 0x8000 then s.cart.prgRAM.read (b.toNat - 0x6000)
    else s.cart.prgROM.read (prgRomIndex s.cart b.toNat) := by
  simp only [isMemory, Bool.or_eq_true, decide_eq_true_eq] at h
  by_cases h1 : b.toNat < 0x2000
  · rw [if_pos h1, memRead_at_ram s h1]
  · rw [if_neg h1]
    by_cases h2 : b.toNat < 0x8000
    · rw [if_pos h2, memRead_at_prgRam s (by omega) h2]
    · rw [if_neg h2, memRead_at_prgRom s (by omega)]

/-- Work RAM after a write. -/
theorem memWrite_workRam (s : State) (a : Word) (v : Byte) :
    (memWrite s a v).ram = if a.toNat < 0x2000 then s.ram.write (a.toNat % 0x800) v else s.ram := by
  rcases router_cases a with h | ⟨h, h'⟩ | h | h | ⟨h, h', h4, h6⟩ | ⟨h, h'⟩ | h
  · rw [memWrite_at_ram s v h, if_pos h]; rfl
  · rw [memWrite_at_port s v h h', if_neg (by omega)]; exact (ppuRegWrite_mem ..).1
  · rw [memWrite_at_dma s v h, if_neg (by omega)]; exact (oamDma_rest ..).1
  · rw [memWrite_at_joypad s v h, if_neg (by omega)]; unfold joypadWrite; split <;> rfl
  · rw [memWrite_at_unmapped s v h h' h4 h6, if_neg (by omega)]
  · rw [memWrite_at_prgRam s v h h', if_neg (by omega)]; rfl
  · rw [memWrite_at_prgRom s v h, if_neg (by omega)]

/-- Program RAM after a write. -/
theorem memWrite_prgRam (s : State) (a : Word) (v : Byte) :
    (memWrite s a v).cart.prgRAM =
      if 0x6000 ≤ a.toNat ∧ a.toNat < 0x8000 then s.cart.prgRAM.write (a.toNat - 0x6000) v else s.cart.prgRAM := by
  rcases router_cases a with h | ⟨h, h'⟩ | h | h | ⟨h, h', h4, h6⟩ | ⟨h, h'⟩ | h
  · rw [memWrite_at_ram s v h, if_neg (by omega)]; rfl
  · rw [memWrite_at_port s v h h', if_neg (by omega)]; exact (ppuRegWrite_mem ..).2
  · rw [memWrite_at_dma s v h, if_neg (by omega), (oamDma_rest ..).2.1]
  · rw [memWrite_at_joypad s v h, if_neg (by omega)]; unfold joypadWrite; split <;> rfl
  · rw [memWrite_at_unmapped s v h h' h4 h6, if_neg (by omega)]
  · rw [memWrite_at_prgRam s v h h', if_pos ⟨h, h'⟩]; rfl
  · rw [memWrite_at_prgRom s v h, if_neg (by omega)]

theorem prgRomIndex_memWrite (s : State) (a : Word) (v : Byte) (n : Nat) :
    prgRomIndex (memWrite s a v).cart n = prgRomIndex s.cart n := by
  simp [prgRomIndex, Cartridge.prgLength]

/-- A write keeps every byte of memory that is not its own cell. -/
theorem memWrite_other (s : State) (a b : Word) (v : Byte) (hb : isMemory b = true) (h : ¬ SameCell a b) :
    (memRead (memWrite s a v) b).1 = (memRead s b).1 := by
  have hb' := hb
  simp only [isMemory, Bool.or_eq_true, decide_eq_true_eq] at hb'
  rw [memRead_byte hb, memRead_byte hb, memWrite_workRam, memWrite_prgRam, memWrite_cart_prgROM, prgRomIndex_memWrite]
  have eq_iff : a = b ↔ a.toNat = b.toNat := BitVec.toNat_inj.symm
  simp only [SameCell, eq_iff, not_or] at h
  by_cases h1 : b.toNat < 0x2000
  · simp only [h1, if_true]
    split
    · rw [read_write_other]; intro e; exact h.2 ⟨by omega, h1, e⟩
    · rfl
  · simp only [h1, if_false]
    by_cases h2 : b.toNat < 0x8000
    · simp only [h2, if_true]
      split
      · rw [read_write_other]; omega
      · rfl
    · simp only [h2, if_false]

/-- Video memory changes only through port 7. -/
theorem memWrite_video (s : State) (a : Word) (v : Byte) (h : ¬ IsPort 7 a) (b : VideoAddr) :
    ppuRead (memWrite s a v) b = ppuRead s b := by
  rcases router_cases a with h1 | ⟨h1, h1'⟩ | h1 | h1 | ⟨h1, h1', h4, h6⟩ | ⟨h1, h1'⟩ | h1
  · rw [memWrite_at_ram s v h1]; rfl
  · rw [memWrite_at_port s v h1 h1']
    have h7 : a.toNat % 8 ≠ 7 := fun e => h ⟨h1, h1', e⟩
    unfold ppuRegWrite writeControl writeMask writeOamAddress writeOamData writeScroll writeVideoAddress
    rw [if_neg h7]
    repeat' split
    all_goals rfl
  · rw [memWrite_at_dma s v h1]
    obtain ⟨-, hc, hn, hp, -⟩ := oamDma_rest s v
    simp only [ppuRead, hc, hn, hp]
  · rw [memWrite_at_joypad s v h1]; unfold joypadWrite; split <;> rfl
  · rw [memWrite_at_unmapped s v h1 h1' h4 h6]
  · rw [memWrite_at_prgRam s v h1 h1']; rfl
  · rw [memWrite_at_prgRom s v h1]

/-- OAM changes only through port 4 and `$4014`. -/
theorem memWrite_oam (s : State) (a : Word) (v : Byte) (h : ¬ IsPort 4 a) (h' : a ≠ 0x4014) :
    (memWrite s a v).ppu.oam = s.ppu.oam := by
  have hd : a.toNat ≠ 0x4014 := fun e => h' (BitVec.eq_of_toNat_eq e)
  rcases router_cases a with h1 | ⟨h1, h1'⟩ | h1 | h1 | ⟨h1, h1', h4, h6⟩ | ⟨h1, h1'⟩ | h1
  · rw [memWrite_at_ram s v h1]; rfl
  · rw [memWrite_at_port s v h1 h1']
    have h7 : a.toNat % 8 ≠ 4 := fun e => h ⟨h1, h1', e⟩
    unfold ppuRegWrite writeControl writeMask writeOamAddress writeScroll writeVideoAddress writeVideoData incVram
    rw [if_neg h7]
    repeat' split
    all_goals first | rfl | simp
  · exact absurd h1 hd
  · rw [memWrite_at_joypad s v h1]; unfold joypadWrite; split <;> rfl
  · rw [memWrite_at_unmapped s v h1 h1' h4 h6]
  · rw [memWrite_at_prgRam s v h1 h1']; rfl
  · rw [memWrite_at_prgRom s v h1]

/-- A write stores only at its address. -/
theorem memWrite_storesOnlyAt (s : State) (a : Word) (v : Byte) : StoresOnlyAt [a] s (memWrite s a v) where
  cpu b hb h := memWrite_other s a b v hb (h a (by simp))
  video h b := memWrite_video s a v (h a (by simp)) b
  oam h k := by rw [memWrite_oam s a v (h a (by simp)).1 (h a (by simp)).2]

/-- A read stores nothing. -/
theorem memRead_storesOnlyAt (s : State) (a : Word) : StoresOnlyAt [] s (memRead s a).2 where
  cpu b hb _ := memRead_memRead_memory s a b hb
  video _ b := memRead_ppuRead s a b
  oam _ k := by simp

theorem storesOnlyAt_refl (s : State) : StoresOnlyAt [] s s := ⟨fun _ _ _ => rfl, fun _ _ => rfl, fun _ _ => rfl⟩

/-- Storing twice. -/
theorem storesOnlyAt_trans {l l' : List Word} {s t u : State} (h : StoresOnlyAt l s t) (h' : StoresOnlyAt l' t u) :
    StoresOnlyAt (l ++ l') s u where
  cpu b hb hn := (h'.cpu b hb fun a ha => hn a (List.mem_append_right _ ha)).trans
    (h.cpu b hb fun a ha => hn a (List.mem_append_left _ ha))
  video hn b := (h'.video (fun a ha => hn a (List.mem_append_right _ ha)) b).trans
    (h.video (fun a ha => hn a (List.mem_append_left _ ha)) b)
  oam hn k := (h'.oam (fun a ha => hn a (List.mem_append_right _ ha)) k).trans
    (h.oam (fun a ha => hn a (List.mem_append_left _ ha)) k)

/-- Memory does not depend on the registers. -/
theorem storesOnlyAt_regs {l : List Word} {s t u : State} (h : StoresOnlyAt l s t) (hr : u.ram = t.ram) (hp : u.ppu = t.ppu)
    (hc : u.cart = t.cart) : StoresOnlyAt l s u where
  cpu b hb hn := by rw [← h.cpu b hb hn, memRead_byte hb, memRead_byte hb, hr, hc]
  video hn b := by rw [← h.video hn b]; simp only [ppuRead, hp, hc]
  oam hn k := by rw [← h.oam hn k, hp]

/-- A push stores only at its stack byte. -/
theorem push_storesOnlyAt (s : State) (sp v : Byte) :
    StoresOnlyAt [stackAddr sp] s (s.setRam (s.ram.write (0x100 + sp.toNat) v)) := by
  have := memWrite_storesOnlyAt s (stackAddr sp) v
  rwa [memWrite_stack] at this

/-- A data read stores nothing. -/
theorem readOperand_storesOnlyAt (s : State) (o : Operand) : StoresOnlyAt [] s (readOperand o s).2 := by
  cases o
  · exact storesOnlyAt_refl s
  · exact memRead_storesOnlyAt s _

end Sys2Proof.Laws
end

