-- ==== Sys2Proof/Laws/PerInstr.lean ====
section
/-!
SUPPORT. Statements about every instruction as syntax, one lemma per constructor: the encoding has the length that the
opcode byte alone gives (30_encoding.md R70, R72).
-/

namespace Sys2Proof.Laws

/-- R72: the encoding of an instruction is as long as its opcode byte says. -/
def EncodingLength.Statement (i : Instr) : Prop := (encode i).length = opcodeLength i.opcode

theorem EncodingLength.ldaIzx (d : Byte) : EncodingLength.Statement (.ldaIzx d) := by
  show 2 = opcodeLength 0xA1#8; decide
theorem EncodingLength.ldaZp (d : Byte) : EncodingLength.Statement (.ldaZp d) := by
  show 2 = opcodeLength 0xA5#8; decide
theorem EncodingLength.ldaImm (v : Byte) : EncodingLength.Statement (.ldaImm v) := by
  show 2 = opcodeLength 0xA9#8; decide
theorem EncodingLength.ldaAbs (a : Word) : EncodingLength.Statement (.ldaAbs a) := by
  show 3 = opcodeLength 0xAD#8; decide
theorem EncodingLength.ldaIzy (d : Byte) : EncodingLength.Statement (.ldaIzy d) := by
  show 2 = opcodeLength 0xB1#8; decide
theorem EncodingLength.ldaZpx (d : Byte) : EncodingLength.Statement (.ldaZpx d) := by
  show 2 = opcodeLength 0xB5#8; decide
theorem EncodingLength.ldaAby (a : Word) : EncodingLength.Statement (.ldaAby a) := by
  show 3 = opcodeLength 0xB9#8; decide
theorem EncodingLength.ldaAbx (a : Word) : EncodingLength.Statement (.ldaAbx a) := by
  show 3 = opcodeLength 0xBD#8; decide
theorem EncodingLength.ldxImm (v : Byte) : EncodingLength.Statement (.ldxImm v) := by
  show 2 = opcodeLength 0xA2#8; decide
theorem EncodingLength.ldxZp (d : Byte) : EncodingLength.Statement (.ldxZp d) := by
  show 2 = opcodeLength 0xA6#8; decide
theorem EncodingLength.ldxAbs (a : Word) : EncodingLength.Statement (.ldxAbs a) := by
  show 3 = opcodeLength 0xAE#8; decide
theorem EncodingLength.ldxZpy (d : Byte) : EncodingLength.Statement (.ldxZpy d) := by
  show 2 = opcodeLength 0xB6#8; decide
theorem EncodingLength.ldxAby (a : Word) : EncodingLength.Statement (.ldxAby a) := by
  show 3 = opcodeLength 0xBE#8; decide
theorem EncodingLength.ldyImm (v : Byte) : EncodingLength.Statement (.ldyImm v) := by
  show 2 = opcodeLength 0xA0#8; decide
theorem EncodingLength.ldyZp (d : Byte) : EncodingLength.Statement (.ldyZp d) := by
  show 2 = opcodeLength 0xA4#8; decide
theorem EncodingLength.ldyAbs (a : Word) : EncodingLength.Statement (.ldyAbs a) := by
  show 3 = opcodeLength 0xAC#8; decide
theorem EncodingLength.ldyZpx (d : Byte) : EncodingLength.Statement (.ldyZpx d) := by
  show 2 = opcodeLength 0xB4#8; decide
theorem EncodingLength.ldyAbx (a : Word) : EncodingLength.Statement (.ldyAbx a) := by
  show 3 = opcodeLength 0xBC#8; decide
theorem EncodingLength.staIzx (d : Byte) : EncodingLength.Statement (.staIzx d) := by
  show 2 = opcodeLength 0x81#8; decide
theorem EncodingLength.staZp (d : Byte) : EncodingLength.Statement (.staZp d) := by
  show 2 = opcodeLength 0x85#8; decide
theorem EncodingLength.staAbs (a : Word) : EncodingLength.Statement (.staAbs a) := by
  show 3 = opcodeLength 0x8D#8; decide
theorem EncodingLength.staIzy (d : Byte) : EncodingLength.Statement (.staIzy d) := by
  show 2 = opcodeLength 0x91#8; decide
theorem EncodingLength.staZpx (d : Byte) : EncodingLength.Statement (.staZpx d) := by
  show 2 = opcodeLength 0x95#8; decide
theorem EncodingLength.staAby (a : Word) : EncodingLength.Statement (.staAby a) := by
  show 3 = opcodeLength 0x99#8; decide
theorem EncodingLength.staAbx (a : Word) : EncodingLength.Statement (.staAbx a) := by
  show 3 = opcodeLength 0x9D#8; decide
theorem EncodingLength.stxZp (d : Byte) : EncodingLength.Statement (.stxZp d) := by
  show 2 = opcodeLength 0x86#8; decide
theorem EncodingLength.stxAbs (a : Word) : EncodingLength.Statement (.stxAbs a) := by
  show 3 = opcodeLength 0x8E#8; decide
theorem EncodingLength.stxZpy (d : Byte) : EncodingLength.Statement (.stxZpy d) := by
  show 2 = opcodeLength 0x96#8; decide
theorem EncodingLength.styZp (d : Byte) : EncodingLength.Statement (.styZp d) := by
  show 2 = opcodeLength 0x84#8; decide
theorem EncodingLength.styAbs (a : Word) : EncodingLength.Statement (.styAbs a) := by
  show 3 = opcodeLength 0x8C#8; decide
theorem EncodingLength.styZpx (d : Byte) : EncodingLength.Statement (.styZpx d) := by
  show 2 = opcodeLength 0x94#8; decide
theorem EncodingLength.tax : EncodingLength.Statement (.tax) := by
  show 1 = opcodeLength 0xAA#8; decide
theorem EncodingLength.tay : EncodingLength.Statement (.tay) := by
  show 1 = opcodeLength 0xA8#8; decide
theorem EncodingLength.txa : EncodingLength.Statement (.txa) := by
  show 1 = opcodeLength 0x8A#8; decide
theorem EncodingLength.tya : EncodingLength.Statement (.tya) := by
  show 1 = opcodeLength 0x98#8; decide
theorem EncodingLength.tsx : EncodingLength.Statement (.tsx) := by
  show 1 = opcodeLength 0xBA#8; decide
theorem EncodingLength.txs : EncodingLength.Statement (.txs) := by
  show 1 = opcodeLength 0x9A#8; decide
theorem EncodingLength.adcIzx (d : Byte) : EncodingLength.Statement (.adcIzx d) := by
  show 2 = opcodeLength 0x61#8; decide
theorem EncodingLength.adcZp (d : Byte) : EncodingLength.Statement (.adcZp d) := by
  show 2 = opcodeLength 0x65#8; decide
theorem EncodingLength.adcImm (v : Byte) : EncodingLength.Statement (.adcImm v) := by
  show 2 = opcodeLength 0x69#8; decide
theorem EncodingLength.adcAbs (a : Word) : EncodingLength.Statement (.adcAbs a) := by
  show 3 = opcodeLength 0x6D#8; decide
theorem EncodingLength.adcIzy (d : Byte) : EncodingLength.Statement (.adcIzy d) := by
  show 2 = opcodeLength 0x71#8; decide
theorem EncodingLength.adcZpx (d : Byte) : EncodingLength.Statement (.adcZpx d) := by
  show 2 = opcodeLength 0x75#8; decide
theorem EncodingLength.adcAby (a : Word) : EncodingLength.Statement (.adcAby a) := by
  show 3 = opcodeLength 0x79#8; decide
theorem EncodingLength.adcAbx (a : Word) : EncodingLength.Statement (.adcAbx a) := by
  show 3 = opcodeLength 0x7D#8; decide
theorem EncodingLength.sbcIzx (d : Byte) : EncodingLength.Statement (.sbcIzx d) := by
  show 2 = opcodeLength 0xE1#8; decide
theorem EncodingLength.sbcZp (d : Byte) : EncodingLength.Statement (.sbcZp d) := by
  show 2 = opcodeLength 0xE5#8; decide
theorem EncodingLength.sbcImm (v : Byte) : EncodingLength.Statement (.sbcImm v) := by
  show 2 = opcodeLength 0xE9#8; decide
theorem EncodingLength.sbcAbs (a : Word) : EncodingLength.Statement (.sbcAbs a) := by
  show 3 = opcodeLength 0xED#8; decide
theorem EncodingLength.sbcIzy (d : Byte) : EncodingLength.Statement (.sbcIzy d) := by
  show 2 = opcodeLength 0xF1#8; decide
theorem EncodingLength.sbcZpx (d : Byte) : EncodingLength.Statement (.sbcZpx d) := by
  show 2 = opcodeLength 0xF5#8; decide
theorem EncodingLength.sbcAby (a : Word) : EncodingLength.Statement (.sbcAby a) := by
  show 3 = opcodeLength 0xF9#8; decide
theorem EncodingLength.sbcAbx (a : Word) : EncodingLength.Statement (.sbcAbx a) := by
  show 3 = opcodeLength 0xFD#8; decide
theorem EncodingLength.andIzx (d : Byte) : EncodingLength.Statement (.andIzx d) := by
  show 2 = opcodeLength 0x21#8; decide
theorem EncodingLength.andZp (d : Byte) : EncodingLength.Statement (.andZp d) := by
  show 2 = opcodeLength 0x25#8; decide
theorem EncodingLength.andImm (v : Byte) : EncodingLength.Statement (.andImm v) := by
  show 2 = opcodeLength 0x29#8; decide
theorem EncodingLength.andAbs (a : Word) : EncodingLength.Statement (.andAbs a) := by
  show 3 = opcodeLength 0x2D#8; decide
theorem EncodingLength.andIzy (d : Byte) : EncodingLength.Statement (.andIzy d) := by
  show 2 = opcodeLength 0x31#8; decide
theorem EncodingLength.andZpx (d : Byte) : EncodingLength.Statement (.andZpx d) := by
  show 2 = opcodeLength 0x35#8; decide
theorem EncodingLength.andAby (a : Word) : EncodingLength.Statement (.andAby a) := by
  show 3 = opcodeLength 0x39#8; decide
theorem EncodingLength.andAbx (a : Word) : EncodingLength.Statement (.andAbx a) := by
  show 3 = opcodeLength 0x3D#8; decide
theorem EncodingLength.oraIzx (d : Byte) : EncodingLength.Statement (.oraIzx d) := by
  show 2 = opcodeLength 0x01#8; decide
theorem EncodingLength.oraZp (d : Byte) : EncodingLength.Statement (.oraZp d) := by
  show 2 = opcodeLength 0x05#8; decide
theorem EncodingLength.oraImm (v : Byte) : EncodingLength.Statement (.oraImm v) := by
  show 2 = opcodeLength 0x09#8; decide
theorem EncodingLength.oraAbs (a : Word) : EncodingLength.Statement (.oraAbs a) := by
  show 3 = opcodeLength 0x0D#8; decide
theorem EncodingLength.oraIzy (d : Byte) : EncodingLength.Statement (.oraIzy d) := by
  show 2 = opcodeLength 0x11#8; decide
theorem EncodingLength.oraZpx (d : Byte) : EncodingLength.Statement (.oraZpx d) := by
  show 2 = opcodeLength 0x15#8; decide
theorem EncodingLength.oraAby (a : Word) : EncodingLength.Statement (.oraAby a) := by
  show 3 = opcodeLength 0x19#8; decide
theorem EncodingLength.oraAbx (a : Word) : EncodingLength.Statement (.oraAbx a) := by
  show 3 = opcodeLength 0x1D#8; decide
theorem EncodingLength.eorIzx (d : Byte) : EncodingLength.Statement (.eorIzx d) := by
  show 2 = opcodeLength 0x41#8; decide
theorem EncodingLength.eorZp (d : Byte) : EncodingLength.Statement (.eorZp d) := by
  show 2 = opcodeLength 0x45#8; decide
theorem EncodingLength.eorImm (v : Byte) : EncodingLength.Statement (.eorImm v) := by
  show 2 = opcodeLength 0x49#8; decide
theorem EncodingLength.eorAbs (a : Word) : EncodingLength.Statement (.eorAbs a) := by
  show 3 = opcodeLength 0x4D#8; decide
theorem EncodingLength.eorIzy (d : Byte) : EncodingLength.Statement (.eorIzy d) := by
  show 2 = opcodeLength 0x51#8; decide
theorem EncodingLength.eorZpx (d : Byte) : EncodingLength.Statement (.eorZpx d) := by
  show 2 = opcodeLength 0x55#8; decide
theorem EncodingLength.eorAby (a : Word) : EncodingLength.Statement (.eorAby a) := by
  show 3 = opcodeLength 0x59#8; decide
theorem EncodingLength.eorAbx (a : Word) : EncodingLength.Statement (.eorAbx a) := by
  show 3 = opcodeLength 0x5D#8; decide
theorem EncodingLength.cmpIzx (d : Byte) : EncodingLength.Statement (.cmpIzx d) := by
  show 2 = opcodeLength 0xC1#8; decide
theorem EncodingLength.cmpZp (d : Byte) : EncodingLength.Statement (.cmpZp d) := by
  show 2 = opcodeLength 0xC5#8; decide
theorem EncodingLength.cmpImm (v : Byte) : EncodingLength.Statement (.cmpImm v) := by
  show 2 = opcodeLength 0xC9#8; decide
theorem EncodingLength.cmpAbs (a : Word) : EncodingLength.Statement (.cmpAbs a) := by
  show 3 = opcodeLength 0xCD#8; decide
theorem EncodingLength.cmpIzy (d : Byte) : EncodingLength.Statement (.cmpIzy d) := by
  show 2 = opcodeLength 0xD1#8; decide
theorem EncodingLength.cmpZpx (d : Byte) : EncodingLength.Statement (.cmpZpx d) := by
  show 2 = opcodeLength 0xD5#8; decide
theorem EncodingLength.cmpAby (a : Word) : EncodingLength.Statement (.cmpAby a) := by
  show 3 = opcodeLength 0xD9#8; decide
theorem EncodingLength.cmpAbx (a : Word) : EncodingLength.Statement (.cmpAbx a) := by
  show 3 = opcodeLength 0xDD#8; decide
theorem EncodingLength.cpxImm (v : Byte) : EncodingLength.Statement (.cpxImm v) := by
  show 2 = opcodeLength 0xE0#8; decide
theorem EncodingLength.cpxZp (d : Byte) : EncodingLength.Statement (.cpxZp d) := by
  show 2 = opcodeLength 0xE4#8; decide
theorem EncodingLength.cpxAbs (a : Word) : EncodingLength.Statement (.cpxAbs a) := by
  show 3 = opcodeLength 0xEC#8; decide
theorem EncodingLength.cpyImm (v : Byte) : EncodingLength.Statement (.cpyImm v) := by
  show 2 = opcodeLength 0xC0#8; decide
theorem EncodingLength.cpyZp (d : Byte) : EncodingLength.Statement (.cpyZp d) := by
  show 2 = opcodeLength 0xC4#8; decide
theorem EncodingLength.cpyAbs (a : Word) : EncodingLength.Statement (.cpyAbs a) := by
  show 3 = opcodeLength 0xCC#8; decide
theorem EncodingLength.bitZp (d : Byte) : EncodingLength.Statement (.bitZp d) := by
  show 2 = opcodeLength 0x24#8; decide
theorem EncodingLength.bitAbs (a : Word) : EncodingLength.Statement (.bitAbs a) := by
  show 3 = opcodeLength 0x2C#8; decide
theorem EncodingLength.incZp (d : Byte) : EncodingLength.Statement (.incZp d) := by
  show 2 = opcodeLength 0xE6#8; decide
theorem EncodingLength.incAbs (a : Word) : EncodingLength.Statement (.incAbs a) := by
  show 3 = opcodeLength 0xEE#8; decide
theorem EncodingLength.incZpx (d : Byte) : EncodingLength.Statement (.incZpx d) := by
  show 2 = opcodeLength 0xF6#8; decide
theorem EncodingLength.incAbx (a : Word) : EncodingLength.Statement (.incAbx a) := by
  show 3 = opcodeLength 0xFE#8; decide
theorem EncodingLength.decZp (d : Byte) : EncodingLength.Statement (.decZp d) := by
  show 2 = opcodeLength 0xC6#8; decide
theorem EncodingLength.decAbs (a : Word) : EncodingLength.Statement (.decAbs a) := by
  show 3 = opcodeLength 0xCE#8; decide
theorem EncodingLength.decZpx (d : Byte) : EncodingLength.Statement (.decZpx d) := by
  show 2 = opcodeLength 0xD6#8; decide
theorem EncodingLength.decAbx (a : Word) : EncodingLength.Statement (.decAbx a) := by
  show 3 = opcodeLength 0xDE#8; decide
theorem EncodingLength.inx : EncodingLength.Statement (.inx) := by
  show 1 = opcodeLength 0xE8#8; decide
theorem EncodingLength.iny : EncodingLength.Statement (.iny) := by
  show 1 = opcodeLength 0xC8#8; decide
theorem EncodingLength.dex : EncodingLength.Statement (.dex) := by
  show 1 = opcodeLength 0xCA#8; decide
theorem EncodingLength.dey : EncodingLength.Statement (.dey) := by
  show 1 = opcodeLength 0x88#8; decide
theorem EncodingLength.aslZp (d : Byte) : EncodingLength.Statement (.aslZp d) := by
  show 2 = opcodeLength 0x06#8; decide
theorem EncodingLength.aslAcc : EncodingLength.Statement (.aslAcc) := by
  show 1 = opcodeLength 0x0A#8; decide
theorem EncodingLength.aslAbs (a : Word) : EncodingLength.Statement (.aslAbs a) := by
  show 3 = opcodeLength 0x0E#8; decide
theorem EncodingLength.aslZpx (d : Byte) : EncodingLength.Statement (.aslZpx d) := by
  show 2 = opcodeLength 0x16#8; decide
theorem EncodingLength.aslAbx (a : Word) : EncodingLength.Statement (.aslAbx a) := by
  show 3 = opcodeLength 0x1E#8; decide
theorem EncodingLength.lsrZp (d : Byte) : EncodingLength.Statement (.lsrZp d) := by
  show 2 = opcodeLength 0x46#8; decide
theorem EncodingLength.lsrAcc : EncodingLength.Statement (.lsrAcc) := by
  show 1 = opcodeLength 0x4A#8; decide
theorem EncodingLength.lsrAbs (a : Word) : EncodingLength.Statement (.lsrAbs a) := by
  show 3 = opcodeLength 0x4E#8; decide
theorem EncodingLength.lsrZpx (d : Byte) : EncodingLength.Statement (.lsrZpx d) := by
  show 2 = opcodeLength 0x56#8; decide
theorem EncodingLength.lsrAbx (a : Word) : EncodingLength.Statement (.lsrAbx a) := by
  show 3 = opcodeLength 0x5E#8; decide
theorem EncodingLength.rolZp (d : Byte) : EncodingLength.Statement (.rolZp d) := by
  show 2 = opcodeLength 0x26#8; decide
theorem EncodingLength.rolAcc : EncodingLength.Statement (.rolAcc) := by
  show 1 = opcodeLength 0x2A#8; decide
theorem EncodingLength.rolAbs (a : Word) : EncodingLength.Statement (.rolAbs a) := by
  show 3 = opcodeLength 0x2E#8; decide
theorem EncodingLength.rolZpx (d : Byte) : EncodingLength.Statement (.rolZpx d) := by
  show 2 = opcodeLength 0x36#8; decide
theorem EncodingLength.rolAbx (a : Word) : EncodingLength.Statement (.rolAbx a) := by
  show 3 = opcodeLength 0x3E#8; decide
theorem EncodingLength.rorZp (d : Byte) : EncodingLength.Statement (.rorZp d) := by
  show 2 = opcodeLength 0x66#8; decide
theorem EncodingLength.rorAcc : EncodingLength.Statement (.rorAcc) := by
  show 1 = opcodeLength 0x6A#8; decide
theorem EncodingLength.rorAbs (a : Word) : EncodingLength.Statement (.rorAbs a) := by
  show 3 = opcodeLength 0x6E#8; decide
theorem EncodingLength.rorZpx (d : Byte) : EncodingLength.Statement (.rorZpx d) := by
  show 2 = opcodeLength 0x76#8; decide
theorem EncodingLength.rorAbx (a : Word) : EncodingLength.Statement (.rorAbx a) := by
  show 3 = opcodeLength 0x7E#8; decide
theorem EncodingLength.bpl (off : Byte) : EncodingLength.Statement (.bpl off) := by
  show 2 = opcodeLength 0x10#8; decide
theorem EncodingLength.bmi (off : Byte) : EncodingLength.Statement (.bmi off) := by
  show 2 = opcodeLength 0x30#8; decide
theorem EncodingLength.bvc (off : Byte) : EncodingLength.Statement (.bvc off) := by
  show 2 = opcodeLength 0x50#8; decide
theorem EncodingLength.bvs (off : Byte) : EncodingLength.Statement (.bvs off) := by
  show 2 = opcodeLength 0x70#8; decide
theorem EncodingLength.bcc (off : Byte) : EncodingLength.Statement (.bcc off) := by
  show 2 = opcodeLength 0x90#8; decide
theorem EncodingLength.bcs (off : Byte) : EncodingLength.Statement (.bcs off) := by
  show 2 = opcodeLength 0xB0#8; decide
theorem EncodingLength.bne (off : Byte) : EncodingLength.Statement (.bne off) := by
  show 2 = opcodeLength 0xD0#8; decide
theorem EncodingLength.beq (off : Byte) : EncodingLength.Statement (.beq off) := by
  show 2 = opcodeLength 0xF0#8; decide
theorem EncodingLength.jmpAbs (a : Word) : EncodingLength.Statement (.jmpAbs a) := by
  show 3 = opcodeLength 0x4C#8; decide
theorem EncodingLength.jmpInd (a : Word) : EncodingLength.Statement (.jmpInd a) := by
  show 3 = opcodeLength 0x6C#8; decide
theorem EncodingLength.jsr (a : Word) : EncodingLength.Statement (.jsr a) := by
  show 3 = opcodeLength 0x20#8; decide
theorem EncodingLength.rts : EncodingLength.Statement (.rts) := by
  show 1 = opcodeLength 0x60#8; decide
theorem EncodingLength.pha : EncodingLength.Statement (.pha) := by
  show 1 = opcodeLength 0x48#8; decide
theorem EncodingLength.php : EncodingLength.Statement (.php) := by
  show 1 = opcodeLength 0x08#8; decide
theorem EncodingLength.pla : EncodingLength.Statement (.pla) := by
  show 1 = opcodeLength 0x68#8; decide
theorem EncodingLength.plp : EncodingLength.Statement (.plp) := by
  show 1 = opcodeLength 0x28#8; decide
theorem EncodingLength.clc : EncodingLength.Statement (.clc) := by
  show 1 = opcodeLength 0x18#8; decide
theorem EncodingLength.sec : EncodingLength.Statement (.sec) := by
  show 1 = opcodeLength 0x38#8; decide
theorem EncodingLength.cli : EncodingLength.Statement (.cli) := by
  show 1 = opcodeLength 0x58#8; decide
theorem EncodingLength.sei : EncodingLength.Statement (.sei) := by
  show 1 = opcodeLength 0x78#8; decide
theorem EncodingLength.cld : EncodingLength.Statement (.cld) := by
  show 1 = opcodeLength 0xD8#8; decide
theorem EncodingLength.sed : EncodingLength.Statement (.sed) := by
  show 1 = opcodeLength 0xF8#8; decide
theorem EncodingLength.clv : EncodingLength.Statement (.clv) := by
  show 1 = opcodeLength 0xB8#8; decide
theorem EncodingLength.nop : EncodingLength.Statement (.nop) := by
  show 1 = opcodeLength 0xEA#8; decide
theorem EncodingLength.brk : EncodingLength.Statement (.brk) := by
  show 1 = opcodeLength 0x00#8; decide
theorem EncodingLength.rti : EncodingLength.Statement (.rti) := by
  show 1 = opcodeLength 0x40#8; decide
theorem EncodingLength.unassigned02 : EncodingLength.Statement (.unassigned02) := by
  show 1 = opcodeLength 0x02#8; decide
theorem EncodingLength.unassigned03 : EncodingLength.Statement (.unassigned03) := by
  show 1 = opcodeLength 0x03#8; decide
theorem EncodingLength.unassigned04 : EncodingLength.Statement (.unassigned04) := by
  show 1 = opcodeLength 0x04#8; decide
theorem EncodingLength.unassigned07 : EncodingLength.Statement (.unassigned07) := by
  show 1 = opcodeLength 0x07#8; decide
theorem EncodingLength.unassigned0B : EncodingLength.Statement (.unassigned0B) := by
  show 1 = opcodeLength 0x0B#8; decide
theorem EncodingLength.unassigned0C : EncodingLength.Statement (.unassigned0C) := by
  show 1 = opcodeLength 0x0C#8; decide
theorem EncodingLength.unassigned0F : EncodingLength.Statement (.unassigned0F) := by
  show 1 = opcodeLength 0x0F#8; decide
theorem EncodingLength.unassigned12 : EncodingLength.Statement (.unassigned12) := by
  show 1 = opcodeLength 0x12#8; decide
theorem EncodingLength.unassigned13 : EncodingLength.Statement (.unassigned13) := by
  show 1 = opcodeLength 0x13#8; decide
theorem EncodingLength.unassigned14 : EncodingLength.Statement (.unassigned14) := by
  show 1 = opcodeLength 0x14#8; decide
theorem EncodingLength.unassigned17 : EncodingLength.Statement (.unassigned17) := by
  show 1 = opcodeLength 0x17#8; decide
theorem EncodingLength.unassigned1A : EncodingLength.Statement (.unassigned1A) := by
  show 1 = opcodeLength 0x1A#8; decide
theorem EncodingLength.unassigned1B : EncodingLength.Statement (.unassigned1B) := by
  show 1 = opcodeLength 0x1B#8; decide
theorem EncodingLength.unassigned1C : EncodingLength.Statement (.unassigned1C) := by
  show 1 = opcodeLength 0x1C#8; decide
theorem EncodingLength.unassigned1F : EncodingLength.Statement (.unassigned1F) := by
  show 1 = opcodeLength 0x1F#8; decide
theorem EncodingLength.unassigned22 : EncodingLength.Statement (.unassigned22) := by
  show 1 = opcodeLength 0x22#8; decide
theorem EncodingLength.unassigned23 : EncodingLength.Statement (.unassigned23) := by
  show 1 = opcodeLength 0x23#8; decide
theorem EncodingLength.unassigned27 : EncodingLength.Statement (.unassigned27) := by
  show 1 = opcodeLength 0x27#8; decide
theorem EncodingLength.unassigned2B : EncodingLength.Statement (.unassigned2B) := by
  show 1 = opcodeLength 0x2B#8; decide
theorem EncodingLength.unassigned2F : EncodingLength.Statement (.unassigned2F) := by
  show 1 = opcodeLength 0x2F#8; decide
theorem EncodingLength.unassigned32 : EncodingLength.Statement (.unassigned32) := by
  show 1 = opcodeLength 0x32#8; decide
theorem EncodingLength.unassigned33 : EncodingLength.Statement (.unassigned33) := by
  show 1 = opcodeLength 0x33#8; decide
theorem EncodingLength.unassigned34 : EncodingLength.Statement (.unassigned34) := by
  show 1 = opcodeLength 0x34#8; decide
theorem EncodingLength.unassigned37 : EncodingLength.Statement (.unassigned37) := by
  show 1 = opcodeLength 0x37#8; decide
theorem EncodingLength.unassigned3A : EncodingLength.Statement (.unassigned3A) := by
  show 1 = opcodeLength 0x3A#8; decide
theorem EncodingLength.unassigned3B : EncodingLength.Statement (.unassigned3B) := by
  show 1 = opcodeLength 0x3B#8; decide
theorem EncodingLength.unassigned3C : EncodingLength.Statement (.unassigned3C) := by
  show 1 = opcodeLength 0x3C#8; decide
theorem EncodingLength.unassigned3F : EncodingLength.Statement (.unassigned3F) := by
  show 1 = opcodeLength 0x3F#8; decide
theorem EncodingLength.unassigned42 : EncodingLength.Statement (.unassigned42) := by
  show 1 = opcodeLength 0x42#8; decide
theorem EncodingLength.unassigned43 : EncodingLength.Statement (.unassigned43) := by
  show 1 = opcodeLength 0x43#8; decide
theorem EncodingLength.unassigned44 : EncodingLength.Statement (.unassigned44) := by
  show 1 = opcodeLength 0x44#8; decide
theorem EncodingLength.unassigned47 : EncodingLength.Statement (.unassigned47) := by
  show 1 = opcodeLength 0x47#8; decide
theorem EncodingLength.unassigned4B : EncodingLength.Statement (.unassigned4B) := by
  show 1 = opcodeLength 0x4B#8; decide
theorem EncodingLength.unassigned4F : EncodingLength.Statement (.unassigned4F) := by
  show 1 = opcodeLength 0x4F#8; decide
theorem EncodingLength.unassigned52 : EncodingLength.Statement (.unassigned52) := by
  show 1 = opcodeLength 0x52#8; decide
theorem EncodingLength.unassigned53 : EncodingLength.Statement (.unassigned53) := by
  show 1 = opcodeLength 0x53#8; decide
theorem EncodingLength.unassigned54 : EncodingLength.Statement (.unassigned54) := by
  show 1 = opcodeLength 0x54#8; decide
theorem EncodingLength.unassigned57 : EncodingLength.Statement (.unassigned57) := by
  show 1 = opcodeLength 0x57#8; decide
theorem EncodingLength.unassigned5A : EncodingLength.Statement (.unassigned5A) := by
  show 1 = opcodeLength 0x5A#8; decide
theorem EncodingLength.unassigned5B : EncodingLength.Statement (.unassigned5B) := by
  show 1 = opcodeLength 0x5B#8; decide
theorem EncodingLength.unassigned5C : EncodingLength.Statement (.unassigned5C) := by
  show 1 = opcodeLength 0x5C#8; decide
theorem EncodingLength.unassigned5F : EncodingLength.Statement (.unassigned5F) := by
  show 1 = opcodeLength 0x5F#8; decide
theorem EncodingLength.unassigned62 : EncodingLength.Statement (.unassigned62) := by
  show 1 = opcodeLength 0x62#8; decide
theorem EncodingLength.unassigned63 : EncodingLength.Statement (.unassigned63) := by
  show 1 = opcodeLength 0x63#8; decide
theorem EncodingLength.unassigned64 : EncodingLength.Statement (.unassigned64) := by
  show 1 = opcodeLength 0x64#8; decide
theorem EncodingLength.unassigned67 : EncodingLength.Statement (.unassigned67) := by
  show 1 = opcodeLength 0x67#8; decide
theorem EncodingLength.unassigned6B : EncodingLength.Statement (.unassigned6B) := by
  show 1 = opcodeLength 0x6B#8; decide
theorem EncodingLength.unassigned6F : EncodingLength.Statement (.unassigned6F) := by
  show 1 = opcodeLength 0x6F#8; decide
theorem EncodingLength.unassigned72 : EncodingLength.Statement (.unassigned72) := by
  show 1 = opcodeLength 0x72#8; decide
theorem EncodingLength.unassigned73 : EncodingLength.Statement (.unassigned73) := by
  show 1 = opcodeLength 0x73#8; decide
theorem EncodingLength.unassigned74 : EncodingLength.Statement (.unassigned74) := by
  show 1 = opcodeLength 0x74#8; decide
theorem EncodingLength.unassigned77 : EncodingLength.Statement (.unassigned77) := by
  show 1 = opcodeLength 0x77#8; decide
theorem EncodingLength.unassigned7A : EncodingLength.Statement (.unassigned7A) := by
  show 1 = opcodeLength 0x7A#8; decide
theorem EncodingLength.unassigned7B : EncodingLength.Statement (.unassigned7B) := by
  show 1 = opcodeLength 0x7B#8; decide
theorem EncodingLength.unassigned7C : EncodingLength.Statement (.unassigned7C) := by
  show 1 = opcodeLength 0x7C#8; decide
theorem EncodingLength.unassigned7F : EncodingLength.Statement (.unassigned7F) := by
  show 1 = opcodeLength 0x7F#8; decide
theorem EncodingLength.unassigned80 : EncodingLength.Statement (.unassigned80) := by
  show 1 = opcodeLength 0x80#8; decide
theorem EncodingLength.unassigned82 : EncodingLength.Statement (.unassigned82) := by
  show 1 = opcodeLength 0x82#8; decide
theorem EncodingLength.unassigned83 : EncodingLength.Statement (.unassigned83) := by
  show 1 = opcodeLength 0x83#8; decide
theorem EncodingLength.unassigned87 : EncodingLength.Statement (.unassigned87) := by
  show 1 = opcodeLength 0x87#8; decide
theorem EncodingLength.unassigned89 : EncodingLength.Statement (.unassigned89) := by
  show 1 = opcodeLength 0x89#8; decide
theorem EncodingLength.unassigned8B : EncodingLength.Statement (.unassigned8B) := by
  show 1 = opcodeLength 0x8B#8; decide
theorem EncodingLength.unassigned8F : EncodingLength.Statement (.unassigned8F) := by
  show 1 = opcodeLength 0x8F#8; decide
theorem EncodingLength.unassigned92 : EncodingLength.Statement (.unassigned92) := by
  show 1 = opcodeLength 0x92#8; decide
theorem EncodingLength.unassigned93 : EncodingLength.Statement (.unassigned93) := by
  show 1 = opcodeLength 0x93#8; decide
theorem EncodingLength.unassigned97 : EncodingLength.Statement (.unassigned97) := by
  show 1 = opcodeLength 0x97#8; decide
theorem EncodingLength.unassigned9B : EncodingLength.Statement (.unassigned9B) := by
  show 1 = opcodeLength 0x9B#8; decide
theorem EncodingLength.unassigned9C : EncodingLength.Statement (.unassigned9C) := by
  show 1 = opcodeLength 0x9C#8; decide
theorem EncodingLength.unassigned9E : EncodingLength.Statement (.unassigned9E) := by
  show 1 = opcodeLength 0x9E#8; decide
theorem EncodingLength.unassigned9F : EncodingLength.Statement (.unassigned9F) := by
  show 1 = opcodeLength 0x9F#8; decide
theorem EncodingLength.unassignedA3 : EncodingLength.Statement (.unassignedA3) := by
  show 1 = opcodeLength 0xA3#8; decide
theorem EncodingLength.unassignedA7 : EncodingLength.Statement (.unassignedA7) := by
  show 1 = opcodeLength 0xA7#8; decide
theorem EncodingLength.unassignedAB : EncodingLength.Statement (.unassignedAB) := by
  show 1 = opcodeLength 0xAB#8; decide
theorem EncodingLength.unassignedAF : EncodingLength.Statement (.unassignedAF) := by
  show 1 = opcodeLength 0xAF#8; decide
theorem EncodingLength.unassignedB2 : EncodingLength.Statement (.unassignedB2) := by
  show 1 = opcodeLength 0xB2#8; decide
theorem EncodingLength.unassignedB3 : EncodingLength.Statement (.unassignedB3) := by
  show 1 = opcodeLength 0xB3#8; decide
theorem EncodingLength.unassignedB7 : EncodingLength.Statement (.unassignedB7) := by
  show 1 = opcodeLength 0xB7#8; decide
theorem EncodingLength.unassignedBB : EncodingLength.Statement (.unassignedBB) := by
  show 1 = opcodeLength 0xBB#8; decide
theorem EncodingLength.unassignedBF : EncodingLength.Statement (.unassignedBF) := by
  show 1 = opcodeLength 0xBF#8; decide
theorem EncodingLength.unassignedC2 : EncodingLength.Statement (.unassignedC2) := by
  show 1 = opcodeLength 0xC2#8; decide
theorem EncodingLength.unassignedC3 : EncodingLength.Statement (.unassignedC3) := by
  show 1 = opcodeLength 0xC3#8; decide
theorem EncodingLength.unassignedC7 : EncodingLength.Statement (.unassignedC7) := by
  show 1 = opcodeLength 0xC7#8; decide
theorem EncodingLength.unassignedCB : EncodingLength.Statement (.unassignedCB) := by
  show 1 = opcodeLength 0xCB#8; decide
theorem EncodingLength.unassignedCF : EncodingLength.Statement (.unassignedCF) := by
  show 1 = opcodeLength 0xCF#8; decide
theorem EncodingLength.unassignedD2 : EncodingLength.Statement (.unassignedD2) := by
  show 1 = opcodeLength 0xD2#8; decide
theorem EncodingLength.unassignedD3 : EncodingLength.Statement (.unassignedD3) := by
  show 1 = opcodeLength 0xD3#8; decide
theorem EncodingLength.unassignedD4 : EncodingLength.Statement (.unassignedD4) := by
  show 1 = opcodeLength 0xD4#8; decide
theorem EncodingLength.unassignedD7 : EncodingLength.Statement (.unassignedD7) := by
  show 1 = opcodeLength 0xD7#8; decide
theorem EncodingLength.unassignedDA : EncodingLength.Statement (.unassignedDA) := by
  show 1 = opcodeLength 0xDA#8; decide
theorem EncodingLength.unassignedDB : EncodingLength.Statement (.unassignedDB) := by
  show 1 = opcodeLength 0xDB#8; decide
theorem EncodingLength.unassignedDC : EncodingLength.Statement (.unassignedDC) := by
  show 1 = opcodeLength 0xDC#8; decide
theorem EncodingLength.unassignedDF : EncodingLength.Statement (.unassignedDF) := by
  show 1 = opcodeLength 0xDF#8; decide
theorem EncodingLength.unassignedE2 : EncodingLength.Statement (.unassignedE2) := by
  show 1 = opcodeLength 0xE2#8; decide
theorem EncodingLength.unassignedE3 : EncodingLength.Statement (.unassignedE3) := by
  show 1 = opcodeLength 0xE3#8; decide
theorem EncodingLength.unassignedE7 : EncodingLength.Statement (.unassignedE7) := by
  show 1 = opcodeLength 0xE7#8; decide
theorem EncodingLength.unassignedEB : EncodingLength.Statement (.unassignedEB) := by
  show 1 = opcodeLength 0xEB#8; decide
theorem EncodingLength.unassignedEF : EncodingLength.Statement (.unassignedEF) := by
  show 1 = opcodeLength 0xEF#8; decide
theorem EncodingLength.unassignedF2 : EncodingLength.Statement (.unassignedF2) := by
  show 1 = opcodeLength 0xF2#8; decide
theorem EncodingLength.unassignedF3 : EncodingLength.Statement (.unassignedF3) := by
  show 1 = opcodeLength 0xF3#8; decide
theorem EncodingLength.unassignedF4 : EncodingLength.Statement (.unassignedF4) := by
  show 1 = opcodeLength 0xF4#8; decide
theorem EncodingLength.unassignedF7 : EncodingLength.Statement (.unassignedF7) := by
  show 1 = opcodeLength 0xF7#8; decide
theorem EncodingLength.unassignedFA : EncodingLength.Statement (.unassignedFA) := by
  show 1 = opcodeLength 0xFA#8; decide
theorem EncodingLength.unassignedFB : EncodingLength.Statement (.unassignedFB) := by
  show 1 = opcodeLength 0xFB#8; decide
theorem EncodingLength.unassignedFC : EncodingLength.Statement (.unassignedFC) := by
  show 1 = opcodeLength 0xFC#8; decide
theorem EncodingLength.unassignedFF : EncodingLength.Statement (.unassignedFF) := by
  show 1 = opcodeLength 0xFF#8; decide

end Sys2Proof.Laws
end

