-- ==== Sys2Proof/Laws/Decode.lean ====
section
/-!
SUPPORT. The laws of decoding: the opcode map is right for every constructor and every byte, and every instruction is well
formed.
-/

namespace Sys2Proof.Laws

open Sys2Proof.Machine

/-- Every constructor of `Instr` stands for a cell of the opcode map, so every instruction is well formed. -/
theorem instr_wellFormed (i : Instr) : i.wellFormed = true := by cases i <;> exact rfl

/-- The opcode map gives back the constructor whose opcode is read, with its operand bytes. -/
theorem decodeBytes_opcode (i : Instr) (b1 b2 : Byte) (h : i.mode.bytes = [b1, b2].take i.mode.bytes.length) :
    decodeBytes i.opcode b1 b2 = i := by
  have one : ∀ {d : Byte}, [d] = [b1, b2].take 1 → b1 = d := fun h => (List.cons.inj h).1.symm
  have two : ∀ {w : Word}, [lo8 w, hi8 w] = [b1, b2].take 2 → u16 b2 b1 = w := fun h => by
    obtain ⟨h1, h2⟩ := List.cons.inj h
    rw [← h1, ← (List.cons.inj h2).1, u16_hi8_lo8]
  match i, h with
  | .ldaIzx _, h => show decodeBytes 0xA1#8 b1 b2 = _; exact congrArg Instr.ldaIzx (one h)
  | .ldaZp _, h => show decodeBytes 0xA5#8 b1 b2 = _; exact congrArg Instr.ldaZp (one h)
  | .ldaImm _, h => show decodeBytes 0xA9#8 b1 b2 = _; exact congrArg Instr.ldaImm (one h)
  | .ldaAbs a, h => show decodeBytes 0xAD#8 b1 b2 = _; exact congrArg Instr.ldaAbs (two h)
  | .ldaIzy _, h => show decodeBytes 0xB1#8 b1 b2 = _; exact congrArg Instr.ldaIzy (one h)
  | .ldaZpx _, h => show decodeBytes 0xB5#8 b1 b2 = _; exact congrArg Instr.ldaZpx (one h)
  | .ldaAby a, h => show decodeBytes 0xB9#8 b1 b2 = _; exact congrArg Instr.ldaAby (two h)
  | .ldaAbx a, h => show decodeBytes 0xBD#8 b1 b2 = _; exact congrArg Instr.ldaAbx (two h)
  | .ldxImm _, h => show decodeBytes 0xA2#8 b1 b2 = _; exact congrArg Instr.ldxImm (one h)
  | .ldxZp _, h => show decodeBytes 0xA6#8 b1 b2 = _; exact congrArg Instr.ldxZp (one h)
  | .ldxAbs a, h => show decodeBytes 0xAE#8 b1 b2 = _; exact congrArg Instr.ldxAbs (two h)
  | .ldxZpy _, h => show decodeBytes 0xB6#8 b1 b2 = _; exact congrArg Instr.ldxZpy (one h)
  | .ldxAby a, h => show decodeBytes 0xBE#8 b1 b2 = _; exact congrArg Instr.ldxAby (two h)
  | .ldyImm _, h => show decodeBytes 0xA0#8 b1 b2 = _; exact congrArg Instr.ldyImm (one h)
  | .ldyZp _, h => show decodeBytes 0xA4#8 b1 b2 = _; exact congrArg Instr.ldyZp (one h)
  | .ldyAbs a, h => show decodeBytes 0xAC#8 b1 b2 = _; exact congrArg Instr.ldyAbs (two h)
  | .ldyZpx _, h => show decodeBytes 0xB4#8 b1 b2 = _; exact congrArg Instr.ldyZpx (one h)
  | .ldyAbx a, h => show decodeBytes 0xBC#8 b1 b2 = _; exact congrArg Instr.ldyAbx (two h)
  | .staIzx _, h => show decodeBytes 0x81#8 b1 b2 = _; exact congrArg Instr.staIzx (one h)
  | .staZp _, h => show decodeBytes 0x85#8 b1 b2 = _; exact congrArg Instr.staZp (one h)
  | .staAbs a, h => show decodeBytes 0x8D#8 b1 b2 = _; exact congrArg Instr.staAbs (two h)
  | .staIzy _, h => show decodeBytes 0x91#8 b1 b2 = _; exact congrArg Instr.staIzy (one h)
  | .staZpx _, h => show decodeBytes 0x95#8 b1 b2 = _; exact congrArg Instr.staZpx (one h)
  | .staAby a, h => show decodeBytes 0x99#8 b1 b2 = _; exact congrArg Instr.staAby (two h)
  | .staAbx a, h => show decodeBytes 0x9D#8 b1 b2 = _; exact congrArg Instr.staAbx (two h)
  | .stxZp _, h => show decodeBytes 0x86#8 b1 b2 = _; exact congrArg Instr.stxZp (one h)
  | .stxAbs a, h => show decodeBytes 0x8E#8 b1 b2 = _; exact congrArg Instr.stxAbs (two h)
  | .stxZpy _, h => show decodeBytes 0x96#8 b1 b2 = _; exact congrArg Instr.stxZpy (one h)
  | .styZp _, h => show decodeBytes 0x84#8 b1 b2 = _; exact congrArg Instr.styZp (one h)
  | .styAbs a, h => show decodeBytes 0x8C#8 b1 b2 = _; exact congrArg Instr.styAbs (two h)
  | .styZpx _, h => show decodeBytes 0x94#8 b1 b2 = _; exact congrArg Instr.styZpx (one h)
  | .tax, _ => exact rfl
  | .tay, _ => exact rfl
  | .txa, _ => exact rfl
  | .tya, _ => exact rfl
  | .tsx, _ => exact rfl
  | .txs, _ => exact rfl
  | .adcIzx _, h => show decodeBytes 0x61#8 b1 b2 = _; exact congrArg Instr.adcIzx (one h)
  | .adcZp _, h => show decodeBytes 0x65#8 b1 b2 = _; exact congrArg Instr.adcZp (one h)
  | .adcImm _, h => show decodeBytes 0x69#8 b1 b2 = _; exact congrArg Instr.adcImm (one h)
  | .adcAbs a, h => show decodeBytes 0x6D#8 b1 b2 = _; exact congrArg Instr.adcAbs (two h)
  | .adcIzy _, h => show decodeBytes 0x71#8 b1 b2 = _; exact congrArg Instr.adcIzy (one h)
  | .adcZpx _, h => show decodeBytes 0x75#8 b1 b2 = _; exact congrArg Instr.adcZpx (one h)
  | .adcAby a, h => show decodeBytes 0x79#8 b1 b2 = _; exact congrArg Instr.adcAby (two h)
  | .adcAbx a, h => show decodeBytes 0x7D#8 b1 b2 = _; exact congrArg Instr.adcAbx (two h)
  | .sbcIzx _, h => show decodeBytes 0xE1#8 b1 b2 = _; exact congrArg Instr.sbcIzx (one h)
  | .sbcZp _, h => show decodeBytes 0xE5#8 b1 b2 = _; exact congrArg Instr.sbcZp (one h)
  | .sbcImm _, h => show decodeBytes 0xE9#8 b1 b2 = _; exact congrArg Instr.sbcImm (one h)
  | .sbcAbs a, h => show decodeBytes 0xED#8 b1 b2 = _; exact congrArg Instr.sbcAbs (two h)
  | .sbcIzy _, h => show decodeBytes 0xF1#8 b1 b2 = _; exact congrArg Instr.sbcIzy (one h)
  | .sbcZpx _, h => show decodeBytes 0xF5#8 b1 b2 = _; exact congrArg Instr.sbcZpx (one h)
  | .sbcAby a, h => show decodeBytes 0xF9#8 b1 b2 = _; exact congrArg Instr.sbcAby (two h)
  | .sbcAbx a, h => show decodeBytes 0xFD#8 b1 b2 = _; exact congrArg Instr.sbcAbx (two h)
  | .andIzx _, h => show decodeBytes 0x21#8 b1 b2 = _; exact congrArg Instr.andIzx (one h)
  | .andZp _, h => show decodeBytes 0x25#8 b1 b2 = _; exact congrArg Instr.andZp (one h)
  | .andImm _, h => show decodeBytes 0x29#8 b1 b2 = _; exact congrArg Instr.andImm (one h)
  | .andAbs a, h => show decodeBytes 0x2D#8 b1 b2 = _; exact congrArg Instr.andAbs (two h)
  | .andIzy _, h => show decodeBytes 0x31#8 b1 b2 = _; exact congrArg Instr.andIzy (one h)
  | .andZpx _, h => show decodeBytes 0x35#8 b1 b2 = _; exact congrArg Instr.andZpx (one h)
  | .andAby a, h => show decodeBytes 0x39#8 b1 b2 = _; exact congrArg Instr.andAby (two h)
  | .andAbx a, h => show decodeBytes 0x3D#8 b1 b2 = _; exact congrArg Instr.andAbx (two h)
  | .oraIzx _, h => show decodeBytes 0x01#8 b1 b2 = _; exact congrArg Instr.oraIzx (one h)
  | .oraZp _, h => show decodeBytes 0x05#8 b1 b2 = _; exact congrArg Instr.oraZp (one h)
  | .oraImm _, h => show decodeBytes 0x09#8 b1 b2 = _; exact congrArg Instr.oraImm (one h)
  | .oraAbs a, h => show decodeBytes 0x0D#8 b1 b2 = _; exact congrArg Instr.oraAbs (two h)
  | .oraIzy _, h => show decodeBytes 0x11#8 b1 b2 = _; exact congrArg Instr.oraIzy (one h)
  | .oraZpx _, h => show decodeBytes 0x15#8 b1 b2 = _; exact congrArg Instr.oraZpx (one h)
  | .oraAby a, h => show decodeBytes 0x19#8 b1 b2 = _; exact congrArg Instr.oraAby (two h)
  | .oraAbx a, h => show decodeBytes 0x1D#8 b1 b2 = _; exact congrArg Instr.oraAbx (two h)
  | .eorIzx _, h => show decodeBytes 0x41#8 b1 b2 = _; exact congrArg Instr.eorIzx (one h)
  | .eorZp _, h => show decodeBytes 0x45#8 b1 b2 = _; exact congrArg Instr.eorZp (one h)
  | .eorImm _, h => show decodeBytes 0x49#8 b1 b2 = _; exact congrArg Instr.eorImm (one h)
  | .eorAbs a, h => show decodeBytes 0x4D#8 b1 b2 = _; exact congrArg Instr.eorAbs (two h)
  | .eorIzy _, h => show decodeBytes 0x51#8 b1 b2 = _; exact congrArg Instr.eorIzy (one h)
  | .eorZpx _, h => show decodeBytes 0x55#8 b1 b2 = _; exact congrArg Instr.eorZpx (one h)
  | .eorAby a, h => show decodeBytes 0x59#8 b1 b2 = _; exact congrArg Instr.eorAby (two h)
  | .eorAbx a, h => show decodeBytes 0x5D#8 b1 b2 = _; exact congrArg Instr.eorAbx (two h)
  | .cmpIzx _, h => show decodeBytes 0xC1#8 b1 b2 = _; exact congrArg Instr.cmpIzx (one h)
  | .cmpZp _, h => show decodeBytes 0xC5#8 b1 b2 = _; exact congrArg Instr.cmpZp (one h)
  | .cmpImm _, h => show decodeBytes 0xC9#8 b1 b2 = _; exact congrArg Instr.cmpImm (one h)
  | .cmpAbs a, h => show decodeBytes 0xCD#8 b1 b2 = _; exact congrArg Instr.cmpAbs (two h)
  | .cmpIzy _, h => show decodeBytes 0xD1#8 b1 b2 = _; exact congrArg Instr.cmpIzy (one h)
  | .cmpZpx _, h => show decodeBytes 0xD5#8 b1 b2 = _; exact congrArg Instr.cmpZpx (one h)
  | .cmpAby a, h => show decodeBytes 0xD9#8 b1 b2 = _; exact congrArg Instr.cmpAby (two h)
  | .cmpAbx a, h => show decodeBytes 0xDD#8 b1 b2 = _; exact congrArg Instr.cmpAbx (two h)
  | .cpxImm _, h => show decodeBytes 0xE0#8 b1 b2 = _; exact congrArg Instr.cpxImm (one h)
  | .cpxZp _, h => show decodeBytes 0xE4#8 b1 b2 = _; exact congrArg Instr.cpxZp (one h)
  | .cpxAbs a, h => show decodeBytes 0xEC#8 b1 b2 = _; exact congrArg Instr.cpxAbs (two h)
  | .cpyImm _, h => show decodeBytes 0xC0#8 b1 b2 = _; exact congrArg Instr.cpyImm (one h)
  | .cpyZp _, h => show decodeBytes 0xC4#8 b1 b2 = _; exact congrArg Instr.cpyZp (one h)
  | .cpyAbs a, h => show decodeBytes 0xCC#8 b1 b2 = _; exact congrArg Instr.cpyAbs (two h)
  | .bitZp _, h => show decodeBytes 0x24#8 b1 b2 = _; exact congrArg Instr.bitZp (one h)
  | .bitAbs a, h => show decodeBytes 0x2C#8 b1 b2 = _; exact congrArg Instr.bitAbs (two h)
  | .incZp _, h => show decodeBytes 0xE6#8 b1 b2 = _; exact congrArg Instr.incZp (one h)
  | .incAbs a, h => show decodeBytes 0xEE#8 b1 b2 = _; exact congrArg Instr.incAbs (two h)
  | .incZpx _, h => show decodeBytes 0xF6#8 b1 b2 = _; exact congrArg Instr.incZpx (one h)
  | .incAbx a, h => show decodeBytes 0xFE#8 b1 b2 = _; exact congrArg Instr.incAbx (two h)
  | .decZp _, h => show decodeBytes 0xC6#8 b1 b2 = _; exact congrArg Instr.decZp (one h)
  | .decAbs a, h => show decodeBytes 0xCE#8 b1 b2 = _; exact congrArg Instr.decAbs (two h)
  | .decZpx _, h => show decodeBytes 0xD6#8 b1 b2 = _; exact congrArg Instr.decZpx (one h)
  | .decAbx a, h => show decodeBytes 0xDE#8 b1 b2 = _; exact congrArg Instr.decAbx (two h)
  | .inx, _ => exact rfl
  | .iny, _ => exact rfl
  | .dex, _ => exact rfl
  | .dey, _ => exact rfl
  | .aslZp _, h => show decodeBytes 0x06#8 b1 b2 = _; exact congrArg Instr.aslZp (one h)
  | .aslAcc, _ => exact rfl
  | .aslAbs a, h => show decodeBytes 0x0E#8 b1 b2 = _; exact congrArg Instr.aslAbs (two h)
  | .aslZpx _, h => show decodeBytes 0x16#8 b1 b2 = _; exact congrArg Instr.aslZpx (one h)
  | .aslAbx a, h => show decodeBytes 0x1E#8 b1 b2 = _; exact congrArg Instr.aslAbx (two h)
  | .lsrZp _, h => show decodeBytes 0x46#8 b1 b2 = _; exact congrArg Instr.lsrZp (one h)
  | .lsrAcc, _ => exact rfl
  | .lsrAbs a, h => show decodeBytes 0x4E#8 b1 b2 = _; exact congrArg Instr.lsrAbs (two h)
  | .lsrZpx _, h => show decodeBytes 0x56#8 b1 b2 = _; exact congrArg Instr.lsrZpx (one h)
  | .lsrAbx a, h => show decodeBytes 0x5E#8 b1 b2 = _; exact congrArg Instr.lsrAbx (two h)
  | .rolZp _, h => show decodeBytes 0x26#8 b1 b2 = _; exact congrArg Instr.rolZp (one h)
  | .rolAcc, _ => exact rfl
  | .rolAbs a, h => show decodeBytes 0x2E#8 b1 b2 = _; exact congrArg Instr.rolAbs (two h)
  | .rolZpx _, h => show decodeBytes 0x36#8 b1 b2 = _; exact congrArg Instr.rolZpx (one h)
  | .rolAbx a, h => show decodeBytes 0x3E#8 b1 b2 = _; exact congrArg Instr.rolAbx (two h)
  | .rorZp _, h => show decodeBytes 0x66#8 b1 b2 = _; exact congrArg Instr.rorZp (one h)
  | .rorAcc, _ => exact rfl
  | .rorAbs a, h => show decodeBytes 0x6E#8 b1 b2 = _; exact congrArg Instr.rorAbs (two h)
  | .rorZpx _, h => show decodeBytes 0x76#8 b1 b2 = _; exact congrArg Instr.rorZpx (one h)
  | .rorAbx a, h => show decodeBytes 0x7E#8 b1 b2 = _; exact congrArg Instr.rorAbx (two h)
  | .bpl _, h => show decodeBytes 0x10#8 b1 b2 = _; exact congrArg Instr.bpl (one h)
  | .bmi _, h => show decodeBytes 0x30#8 b1 b2 = _; exact congrArg Instr.bmi (one h)
  | .bvc _, h => show decodeBytes 0x50#8 b1 b2 = _; exact congrArg Instr.bvc (one h)
  | .bvs _, h => show decodeBytes 0x70#8 b1 b2 = _; exact congrArg Instr.bvs (one h)
  | .bcc _, h => show decodeBytes 0x90#8 b1 b2 = _; exact congrArg Instr.bcc (one h)
  | .bcs _, h => show decodeBytes 0xB0#8 b1 b2 = _; exact congrArg Instr.bcs (one h)
  | .bne _, h => show decodeBytes 0xD0#8 b1 b2 = _; exact congrArg Instr.bne (one h)
  | .beq _, h => show decodeBytes 0xF0#8 b1 b2 = _; exact congrArg Instr.beq (one h)
  | .jmpAbs a, h => show decodeBytes 0x4C#8 b1 b2 = _; exact congrArg Instr.jmpAbs (two h)
  | .jmpInd a, h => show decodeBytes 0x6C#8 b1 b2 = _; exact congrArg Instr.jmpInd (two h)
  | .jsr a, h => show decodeBytes 0x20#8 b1 b2 = _; exact congrArg Instr.jsr (two h)
  | .rts, _ => exact rfl
  | .pha, _ => exact rfl
  | .php, _ => exact rfl
  | .pla, _ => exact rfl
  | .plp, _ => exact rfl
  | .clc, _ => exact rfl
  | .sec, _ => exact rfl
  | .cli, _ => exact rfl
  | .sei, _ => exact rfl
  | .cld, _ => exact rfl
  | .sed, _ => exact rfl
  | .clv, _ => exact rfl
  | .nop, _ => exact rfl
  | .brk, _ => exact rfl
  | .rti, _ => exact rfl
  | .unassigned02, _ => exact rfl
  | .unassigned03, _ => exact rfl
  | .unassigned04, _ => exact rfl
  | .unassigned07, _ => exact rfl
  | .unassigned0B, _ => exact rfl
  | .unassigned0C, _ => exact rfl
  | .unassigned0F, _ => exact rfl
  | .unassigned12, _ => exact rfl
  | .unassigned13, _ => exact rfl
  | .unassigned14, _ => exact rfl
  | .unassigned17, _ => exact rfl
  | .unassigned1A, _ => exact rfl
  | .unassigned1B, _ => exact rfl
  | .unassigned1C, _ => exact rfl
  | .unassigned1F, _ => exact rfl
  | .unassigned22, _ => exact rfl
  | .unassigned23, _ => exact rfl
  | .unassigned27, _ => exact rfl
  | .unassigned2B, _ => exact rfl
  | .unassigned2F, _ => exact rfl
  | .unassigned32, _ => exact rfl
  | .unassigned33, _ => exact rfl
  | .unassigned34, _ => exact rfl
  | .unassigned37, _ => exact rfl
  | .unassigned3A, _ => exact rfl
  | .unassigned3B, _ => exact rfl
  | .unassigned3C, _ => exact rfl
  | .unassigned3F, _ => exact rfl
  | .unassigned42, _ => exact rfl
  | .unassigned43, _ => exact rfl
  | .unassigned44, _ => exact rfl
  | .unassigned47, _ => exact rfl
  | .unassigned4B, _ => exact rfl
  | .unassigned4F, _ => exact rfl
  | .unassigned52, _ => exact rfl
  | .unassigned53, _ => exact rfl
  | .unassigned54, _ => exact rfl
  | .unassigned57, _ => exact rfl
  | .unassigned5A, _ => exact rfl
  | .unassigned5B, _ => exact rfl
  | .unassigned5C, _ => exact rfl
  | .unassigned5F, _ => exact rfl
  | .unassigned62, _ => exact rfl
  | .unassigned63, _ => exact rfl
  | .unassigned64, _ => exact rfl
  | .unassigned67, _ => exact rfl
  | .unassigned6B, _ => exact rfl
  | .unassigned6F, _ => exact rfl
  | .unassigned72, _ => exact rfl
  | .unassigned73, _ => exact rfl
  | .unassigned74, _ => exact rfl
  | .unassigned77, _ => exact rfl
  | .unassigned7A, _ => exact rfl
  | .unassigned7B, _ => exact rfl
  | .unassigned7C, _ => exact rfl
  | .unassigned7F, _ => exact rfl
  | .unassigned80, _ => exact rfl
  | .unassigned82, _ => exact rfl
  | .unassigned83, _ => exact rfl
  | .unassigned87, _ => exact rfl
  | .unassigned89, _ => exact rfl
  | .unassigned8B, _ => exact rfl
  | .unassigned8F, _ => exact rfl
  | .unassigned92, _ => exact rfl
  | .unassigned93, _ => exact rfl
  | .unassigned97, _ => exact rfl
  | .unassigned9B, _ => exact rfl
  | .unassigned9C, _ => exact rfl
  | .unassigned9E, _ => exact rfl
  | .unassigned9F, _ => exact rfl
  | .unassignedA3, _ => exact rfl
  | .unassignedA7, _ => exact rfl
  | .unassignedAB, _ => exact rfl
  | .unassignedAF, _ => exact rfl
  | .unassignedB2, _ => exact rfl
  | .unassignedB3, _ => exact rfl
  | .unassignedB7, _ => exact rfl
  | .unassignedBB, _ => exact rfl
  | .unassignedBF, _ => exact rfl
  | .unassignedC2, _ => exact rfl
  | .unassignedC3, _ => exact rfl
  | .unassignedC7, _ => exact rfl
  | .unassignedCB, _ => exact rfl
  | .unassignedCF, _ => exact rfl
  | .unassignedD2, _ => exact rfl
  | .unassignedD3, _ => exact rfl
  | .unassignedD4, _ => exact rfl
  | .unassignedD7, _ => exact rfl
  | .unassignedDA, _ => exact rfl
  | .unassignedDB, _ => exact rfl
  | .unassignedDC, _ => exact rfl
  | .unassignedDF, _ => exact rfl
  | .unassignedE2, _ => exact rfl
  | .unassignedE3, _ => exact rfl
  | .unassignedE7, _ => exact rfl
  | .unassignedEB, _ => exact rfl
  | .unassignedEF, _ => exact rfl
  | .unassignedF2, _ => exact rfl
  | .unassignedF3, _ => exact rfl
  | .unassignedF4, _ => exact rfl
  | .unassignedF7, _ => exact rfl
  | .unassignedFA, _ => exact rfl
  | .unassignedFB, _ => exact rfl
  | .unassignedFC, _ => exact rfl
  | .unassignedFF, _ => exact rfl

/-- Every instruction, the per-constructor lemmas together: its encoding is as long as its opcode says (R72). -/
theorem encode_length (i : Instr) : (encode i).length = opcodeLength i.opcode :=
  match i with
  | .ldaIzx x => EncodingLength.ldaIzx x
  | .ldaZp x => EncodingLength.ldaZp x
  | .ldaImm x => EncodingLength.ldaImm x
  | .ldaAbs x => EncodingLength.ldaAbs x
  | .ldaIzy x => EncodingLength.ldaIzy x
  | .ldaZpx x => EncodingLength.ldaZpx x
  | .ldaAby x => EncodingLength.ldaAby x
  | .ldaAbx x => EncodingLength.ldaAbx x
  | .ldxImm x => EncodingLength.ldxImm x
  | .ldxZp x => EncodingLength.ldxZp x
  | .ldxAbs x => EncodingLength.ldxAbs x
  | .ldxZpy x => EncodingLength.ldxZpy x
  | .ldxAby x => EncodingLength.ldxAby x
  | .ldyImm x => EncodingLength.ldyImm x
  | .ldyZp x => EncodingLength.ldyZp x
  | .ldyAbs x => EncodingLength.ldyAbs x
  | .ldyZpx x => EncodingLength.ldyZpx x
  | .ldyAbx x => EncodingLength.ldyAbx x
  | .staIzx x => EncodingLength.staIzx x
  | .staZp x => EncodingLength.staZp x
  | .staAbs x => EncodingLength.staAbs x
  | .staIzy x => EncodingLength.staIzy x
  | .staZpx x => EncodingLength.staZpx x
  | .staAby x => EncodingLength.staAby x
  | .staAbx x => EncodingLength.staAbx x
  | .stxZp x => EncodingLength.stxZp x
  | .stxAbs x => EncodingLength.stxAbs x
  | .stxZpy x => EncodingLength.stxZpy x
  | .styZp x => EncodingLength.styZp x
  | .styAbs x => EncodingLength.styAbs x
  | .styZpx x => EncodingLength.styZpx x
  | .tax => EncodingLength.tax
  | .tay => EncodingLength.tay
  | .txa => EncodingLength.txa
  | .tya => EncodingLength.tya
  | .tsx => EncodingLength.tsx
  | .txs => EncodingLength.txs
  | .adcIzx x => EncodingLength.adcIzx x
  | .adcZp x => EncodingLength.adcZp x
  | .adcImm x => EncodingLength.adcImm x
  | .adcAbs x => EncodingLength.adcAbs x
  | .adcIzy x => EncodingLength.adcIzy x
  | .adcZpx x => EncodingLength.adcZpx x
  | .adcAby x => EncodingLength.adcAby x
  | .adcAbx x => EncodingLength.adcAbx x
  | .sbcIzx x => EncodingLength.sbcIzx x
  | .sbcZp x => EncodingLength.sbcZp x
  | .sbcImm x => EncodingLength.sbcImm x
  | .sbcAbs x => EncodingLength.sbcAbs x
  | .sbcIzy x => EncodingLength.sbcIzy x
  | .sbcZpx x => EncodingLength.sbcZpx x
  | .sbcAby x => EncodingLength.sbcAby x
  | .sbcAbx x => EncodingLength.sbcAbx x
  | .andIzx x => EncodingLength.andIzx x
  | .andZp x => EncodingLength.andZp x
  | .andImm x => EncodingLength.andImm x
  | .andAbs x => EncodingLength.andAbs x
  | .andIzy x => EncodingLength.andIzy x
  | .andZpx x => EncodingLength.andZpx x
  | .andAby x => EncodingLength.andAby x
  | .andAbx x => EncodingLength.andAbx x
  | .oraIzx x => EncodingLength.oraIzx x
  | .oraZp x => EncodingLength.oraZp x
  | .oraImm x => EncodingLength.oraImm x
  | .oraAbs x => EncodingLength.oraAbs x
  | .oraIzy x => EncodingLength.oraIzy x
  | .oraZpx x => EncodingLength.oraZpx x
  | .oraAby x => EncodingLength.oraAby x
  | .oraAbx x => EncodingLength.oraAbx x
  | .eorIzx x => EncodingLength.eorIzx x
  | .eorZp x => EncodingLength.eorZp x
  | .eorImm x => EncodingLength.eorImm x
  | .eorAbs x => EncodingLength.eorAbs x
  | .eorIzy x => EncodingLength.eorIzy x
  | .eorZpx x => EncodingLength.eorZpx x
  | .eorAby x => EncodingLength.eorAby x
  | .eorAbx x => EncodingLength.eorAbx x
  | .cmpIzx x => EncodingLength.cmpIzx x
  | .cmpZp x => EncodingLength.cmpZp x
  | .cmpImm x => EncodingLength.cmpImm x
  | .cmpAbs x => EncodingLength.cmpAbs x
  | .cmpIzy x => EncodingLength.cmpIzy x
  | .cmpZpx x => EncodingLength.cmpZpx x
  | .cmpAby x => EncodingLength.cmpAby x
  | .cmpAbx x => EncodingLength.cmpAbx x
  | .cpxImm x => EncodingLength.cpxImm x
  | .cpxZp x => EncodingLength.cpxZp x
  | .cpxAbs x => EncodingLength.cpxAbs x
  | .cpyImm x => EncodingLength.cpyImm x
  | .cpyZp x => EncodingLength.cpyZp x
  | .cpyAbs x => EncodingLength.cpyAbs x
  | .bitZp x => EncodingLength.bitZp x
  | .bitAbs x => EncodingLength.bitAbs x
  | .incZp x => EncodingLength.incZp x
  | .incAbs x => EncodingLength.incAbs x
  | .incZpx x => EncodingLength.incZpx x
  | .incAbx x => EncodingLength.incAbx x
  | .decZp x => EncodingLength.decZp x
  | .decAbs x => EncodingLength.decAbs x
  | .decZpx x => EncodingLength.decZpx x
  | .decAbx x => EncodingLength.decAbx x
  | .inx => EncodingLength.inx
  | .iny => EncodingLength.iny
  | .dex => EncodingLength.dex
  | .dey => EncodingLength.dey
  | .aslZp x => EncodingLength.aslZp x
  | .aslAcc => EncodingLength.aslAcc
  | .aslAbs x => EncodingLength.aslAbs x
  | .aslZpx x => EncodingLength.aslZpx x
  | .aslAbx x => EncodingLength.aslAbx x
  | .lsrZp x => EncodingLength.lsrZp x
  | .lsrAcc => EncodingLength.lsrAcc
  | .lsrAbs x => EncodingLength.lsrAbs x
  | .lsrZpx x => EncodingLength.lsrZpx x
  | .lsrAbx x => EncodingLength.lsrAbx x
  | .rolZp x => EncodingLength.rolZp x
  | .rolAcc => EncodingLength.rolAcc
  | .rolAbs x => EncodingLength.rolAbs x
  | .rolZpx x => EncodingLength.rolZpx x
  | .rolAbx x => EncodingLength.rolAbx x
  | .rorZp x => EncodingLength.rorZp x
  | .rorAcc => EncodingLength.rorAcc
  | .rorAbs x => EncodingLength.rorAbs x
  | .rorZpx x => EncodingLength.rorZpx x
  | .rorAbx x => EncodingLength.rorAbx x
  | .bpl x => EncodingLength.bpl x
  | .bmi x => EncodingLength.bmi x
  | .bvc x => EncodingLength.bvc x
  | .bvs x => EncodingLength.bvs x
  | .bcc x => EncodingLength.bcc x
  | .bcs x => EncodingLength.bcs x
  | .bne x => EncodingLength.bne x
  | .beq x => EncodingLength.beq x
  | .jmpAbs x => EncodingLength.jmpAbs x
  | .jmpInd x => EncodingLength.jmpInd x
  | .jsr x => EncodingLength.jsr x
  | .rts => EncodingLength.rts
  | .pha => EncodingLength.pha
  | .php => EncodingLength.php
  | .pla => EncodingLength.pla
  | .plp => EncodingLength.plp
  | .clc => EncodingLength.clc
  | .sec => EncodingLength.sec
  | .cli => EncodingLength.cli
  | .sei => EncodingLength.sei
  | .cld => EncodingLength.cld
  | .sed => EncodingLength.sed
  | .clv => EncodingLength.clv
  | .nop => EncodingLength.nop
  | .brk => EncodingLength.brk
  | .rti => EncodingLength.rti
  | .unassigned02 => EncodingLength.unassigned02
  | .unassigned03 => EncodingLength.unassigned03
  | .unassigned04 => EncodingLength.unassigned04
  | .unassigned07 => EncodingLength.unassigned07
  | .unassigned0B => EncodingLength.unassigned0B
  | .unassigned0C => EncodingLength.unassigned0C
  | .unassigned0F => EncodingLength.unassigned0F
  | .unassigned12 => EncodingLength.unassigned12
  | .unassigned13 => EncodingLength.unassigned13
  | .unassigned14 => EncodingLength.unassigned14
  | .unassigned17 => EncodingLength.unassigned17
  | .unassigned1A => EncodingLength.unassigned1A
  | .unassigned1B => EncodingLength.unassigned1B
  | .unassigned1C => EncodingLength.unassigned1C
  | .unassigned1F => EncodingLength.unassigned1F
  | .unassigned22 => EncodingLength.unassigned22
  | .unassigned23 => EncodingLength.unassigned23
  | .unassigned27 => EncodingLength.unassigned27
  | .unassigned2B => EncodingLength.unassigned2B
  | .unassigned2F => EncodingLength.unassigned2F
  | .unassigned32 => EncodingLength.unassigned32
  | .unassigned33 => EncodingLength.unassigned33
  | .unassigned34 => EncodingLength.unassigned34
  | .unassigned37 => EncodingLength.unassigned37
  | .unassigned3A => EncodingLength.unassigned3A
  | .unassigned3B => EncodingLength.unassigned3B
  | .unassigned3C => EncodingLength.unassigned3C
  | .unassigned3F => EncodingLength.unassigned3F
  | .unassigned42 => EncodingLength.unassigned42
  | .unassigned43 => EncodingLength.unassigned43
  | .unassigned44 => EncodingLength.unassigned44
  | .unassigned47 => EncodingLength.unassigned47
  | .unassigned4B => EncodingLength.unassigned4B
  | .unassigned4F => EncodingLength.unassigned4F
  | .unassigned52 => EncodingLength.unassigned52
  | .unassigned53 => EncodingLength.unassigned53
  | .unassigned54 => EncodingLength.unassigned54
  | .unassigned57 => EncodingLength.unassigned57
  | .unassigned5A => EncodingLength.unassigned5A
  | .unassigned5B => EncodingLength.unassigned5B
  | .unassigned5C => EncodingLength.unassigned5C
  | .unassigned5F => EncodingLength.unassigned5F
  | .unassigned62 => EncodingLength.unassigned62
  | .unassigned63 => EncodingLength.unassigned63
  | .unassigned64 => EncodingLength.unassigned64
  | .unassigned67 => EncodingLength.unassigned67
  | .unassigned6B => EncodingLength.unassigned6B
  | .unassigned6F => EncodingLength.unassigned6F
  | .unassigned72 => EncodingLength.unassigned72
  | .unassigned73 => EncodingLength.unassigned73
  | .unassigned74 => EncodingLength.unassigned74
  | .unassigned77 => EncodingLength.unassigned77
  | .unassigned7A => EncodingLength.unassigned7A
  | .unassigned7B => EncodingLength.unassigned7B
  | .unassigned7C => EncodingLength.unassigned7C
  | .unassigned7F => EncodingLength.unassigned7F
  | .unassigned80 => EncodingLength.unassigned80
  | .unassigned82 => EncodingLength.unassigned82
  | .unassigned83 => EncodingLength.unassigned83
  | .unassigned87 => EncodingLength.unassigned87
  | .unassigned89 => EncodingLength.unassigned89
  | .unassigned8B => EncodingLength.unassigned8B
  | .unassigned8F => EncodingLength.unassigned8F
  | .unassigned92 => EncodingLength.unassigned92
  | .unassigned93 => EncodingLength.unassigned93
  | .unassigned97 => EncodingLength.unassigned97
  | .unassigned9B => EncodingLength.unassigned9B
  | .unassigned9C => EncodingLength.unassigned9C
  | .unassigned9E => EncodingLength.unassigned9E
  | .unassigned9F => EncodingLength.unassigned9F
  | .unassignedA3 => EncodingLength.unassignedA3
  | .unassignedA7 => EncodingLength.unassignedA7
  | .unassignedAB => EncodingLength.unassignedAB
  | .unassignedAF => EncodingLength.unassignedAF
  | .unassignedB2 => EncodingLength.unassignedB2
  | .unassignedB3 => EncodingLength.unassignedB3
  | .unassignedB7 => EncodingLength.unassignedB7
  | .unassignedBB => EncodingLength.unassignedBB
  | .unassignedBF => EncodingLength.unassignedBF
  | .unassignedC2 => EncodingLength.unassignedC2
  | .unassignedC3 => EncodingLength.unassignedC3
  | .unassignedC7 => EncodingLength.unassignedC7
  | .unassignedCB => EncodingLength.unassignedCB
  | .unassignedCF => EncodingLength.unassignedCF
  | .unassignedD2 => EncodingLength.unassignedD2
  | .unassignedD3 => EncodingLength.unassignedD3
  | .unassignedD4 => EncodingLength.unassignedD4
  | .unassignedD7 => EncodingLength.unassignedD7
  | .unassignedDA => EncodingLength.unassignedDA
  | .unassignedDB => EncodingLength.unassignedDB
  | .unassignedDC => EncodingLength.unassignedDC
  | .unassignedDF => EncodingLength.unassignedDF
  | .unassignedE2 => EncodingLength.unassignedE2
  | .unassignedE3 => EncodingLength.unassignedE3
  | .unassignedE7 => EncodingLength.unassignedE7
  | .unassignedEB => EncodingLength.unassignedEB
  | .unassignedEF => EncodingLength.unassignedEF
  | .unassignedF2 => EncodingLength.unassignedF2
  | .unassignedF3 => EncodingLength.unassignedF3
  | .unassignedF4 => EncodingLength.unassignedF4
  | .unassignedF7 => EncodingLength.unassignedF7
  | .unassignedFA => EncodingLength.unassignedFA
  | .unassignedFB => EncodingLength.unassignedFB
  | .unassignedFC => EncodingLength.unassignedFC
  | .unassignedFF => EncodingLength.unassignedFF

/-- What the opcode map gives for a byte: that byte's constructor, whose operand bytes are the first ones after it. -/
theorem decodeBytes_spec (op b1 b2 : Byte) :
    (decodeBytes op b1 b2).opcode = op ∧
    (decodeBytes op b1 b2).mode.bytes = [b1, b2].take (opcodeLength op - 1) := by
  obtain ⟨n, hn, rfl⟩ : ∃ n < 256, op = BitVec.ofNat 8 n := ⟨op.toNat, op.isLt, by simp⟩
  interval_cases n
  all_goals first
    | exact ⟨rfl, rfl⟩
    | exact ⟨rfl, by
        show [lo8 (u16 b2 b1), hi8 (u16 b2 b1)] = [b1, b2]
        rw [lo8_u16, hi8_u16]⟩

/-- An operand has at most two bytes. -/
theorem mode_bytes_length (m : Mode) : m.bytes.length ≤ 2 := by
  rcases m with _ | _ | _ | m | _ | _ <;> first | (cases m <;> simp [Mode.bytes, MemMode.bytes]) | simp [Mode.bytes]

/-- The operand bytes do not matter to an instruction's mnemonic and mode key. -/
theorem decodeBytes_key (op b1 b2 : Byte) :
    (decodeBytes op b1 b2).mnemonic = (decodeBytes op 0 0).mnemonic ∧
    (decodeBytes op b1 b2).mode.key = (decodeBytes op 0 0).mode.key := by
  obtain ⟨n, hn, rfl⟩ : ∃ n < 256, op = BitVec.ofNat 8 n := ⟨op.toNat, op.isLt, by simp⟩
  interval_cases n
  all_goals exact ⟨rfl, rfl⟩

/-- Every instruction has its *Encoding* line, with the default of its base cycle count (R86, R88). -/
theorem encodedAs_default (i : Instr) : EncodedAs i (baseCount defaultParams i.opcode) := by
  have key : ∀ op : Byte,
      (op, (decodeBytes op 0 0).mode.key, baseCount defaultParams op) ∈ encodings (decodeBytes op 0 0).mnemonic := by
    decide +kernel
  obtain ⟨b1, b2, h⟩ : ∃ b1 b2 : Byte, i.mode.bytes = [b1, b2].take i.mode.bytes.length := by
    rcases h : i.mode.bytes with _ | ⟨b1, _ | ⟨b2, l⟩⟩
    · exact ⟨0, 0, rfl⟩
    · exact ⟨b1, 0, rfl⟩
    · have hl : (b1 :: b2 :: l).length ≤ 2 := by rw [← h]; exact mode_bytes_length i.mode
      obtain rfl : l = [] := List.eq_nil_of_length_eq_zero (by simpa using hl)
      exact ⟨b1, b2, rfl⟩
  have hi := key i.opcode
  rw [← (decodeBytes_key i.opcode b1 b2).1, ← (decodeBytes_key i.opcode b1 b2).2, decodeBytes_opcode i b1 b2 h] at hi
  exact hi

end Sys2Proof.Laws
end

