-- ==== Sys2Proof/Laws/Loader.lean ====
section
/-!
SUPPORT. The laws of the loader and of the reset that ends a load.
-/

namespace Sys2Proof.Laws

open Sys2Proof.Machine

/-- The reset that ends a load (R320), whole: `PC` from the new reset vector, registers from the parameters, memories and
latches clear; the button mask, the frame buffer, the parameters, the sequencer and `cycles` stay. -/
theorem attachAndReset_eq (c : Cartridge) (s : State) : attachAndReset c s = { s with
    a := s.params.resetA, x := s.params.resetX, y := s.params.resetY, sp := s.params.resetSP, p := s.params.resetP,
    pc := u16 (c.prgROM.read (prgRomIndex c 0xFFFD)) (c.prgROM.read (prgRomIndex c 0xFFFC)),
    nmiPending := false, irqPending := false, ram := [], ppu := clearPpu s.ppu.frameBuffer,
    joypad := { s.joypad with shiftIndex := 0, strobe := false }, cartridgeAttached := true, cart := c } := by
  simp only [attachAndReset, resetCpu, resetPpu, attachPpu, Joypad.afterReset]
  rw [memRead16_rom _ (by decide) (by decide), memRead_at_prgRom _ (by decide), memRead_at_prgRom _ (by decide)]
  rfl

/-- Every load: a failure changes nothing, a success resets the machine with the image's cartridge. -/
theorem loadRom_eq (img : List Byte) (s : State) : loadRom img s =
    match loadImage img with
    | .ok c => (.loaded (imageInfo img), attachAndReset c s)
    | .error e => (.failed e, s) := rfl

/-- What an accepted image satisfies (R264, R266, R267). -/
theorem loadImage_ok {img : List Byte} {c : Cartridge} (h : loadImage img = .ok c) :
    c = imageCartridge img ∧ imageMapper img = 0 ∧ imagePrgBanks img ≠ 0 := by
  unfold loadImage at h
  split at h
  · cases h
  · split at h
    · cases h
    · rename_i hm
      split at h
      · cases h
      · rename_i hb
        split at h
        · cases h
        · injection h with h
          exact ⟨h.symm, by simpa using hm, hb⟩

/-- The memories of an image's cartridge are in canonical form. -/
theorem imageCartridge_forms (img : List Byte) :
    Memory.wf 8192 (imageCartridge img).prgRAM = true ∧ Memory.wf 8192 (imageCartridge img).chr = true ∧
    Memory.wf (imageCartridge img).prgLength (imageCartridge img).prgROM = true := by
  refine ⟨rfl, ?_, wf_ofBytes _ ?_⟩
  · unfold imageCartridge
    simp only
    split
    · rfl
    · exact wf_ofBytes _ (by rw [List.length_take]; omega)
  · simp only [imageCartridge, Cartridge.prgLength, List.length_take]; omega

/-- Resetting with a cartridge in canonical form gives memories in canonical form. -/
theorem attachAndReset_forms {c : Cartridge} (s : State) (h1 : Memory.wf 8192 c.prgRAM = true)
    (h2 : Memory.wf 8192 c.chr = true) (h3 : Memory.wf c.prgLength c.prgROM = true) : Forms (attachAndReset c s) := by
  rw [attachAndReset_eq]
  exact ⟨rfl, rfl, rfl, rfl, h1, h2, h3, fun _ _ => rfl⟩

/-- The header of the blank image of log 7: one program bank, no character bank, mapper 0, VERTICAL. -/
def blankHeader : List Byte := [0x4E, 0x45, 0x53, 0x1A, 1, 0, 0, 0, 0, 0, 0, 0, 0, 0, 0, 0]

/-- An image of that header and `n` zero bytes. -/
def blankImage (n : Nat) : List Byte := blankHeader ++ List.replicate n 0

theorem imageByte_blank (n k : Nat) (hk : k < 16) : imageByte (blankImage n) k = blankHeader.getD k 0 :=
  List.getD_append _ _ _ _ hk

theorem loadImage_blank (n : Nat) (hn : n = 16384) : loadImage (blankImage n) = .ok blankCartridge := by
  have hlen : (blankImage n).length = 16 + n := by
    rw [blankImage, List.length_append, List.length_replicate]; rfl
  have hb : imagePrgBanks (blankImage n) = 1 := by rw [imagePrgBanks, imageByte_blank n 4 (by decide)]; rfl
  have hc : imageChrBanks (blankImage n) = 0 := by rw [imageChrBanks, imageByte_blank n 5 (by decide)]; rfl
  have hm : imageMapper (blankImage n) = 0 := by
    rw [imageMapper, imageByte_blank n 6 (by decide), imageByte_blank n 7 (by decide)]; rfl
  have ho : imageOffset (blankImage n) = 16 := by rw [imageOffset, imageByte_blank n 6 (by decide)]; rfl
  have hi : imageMirroring (blankImage n) = .vertical := by rw [imageMirroring, imageByte_blank n 6 (by decide)]; rfl
  have ht : (blankImage n).take 4 = imageMagic := rfl
  have hr : ((blankImage n).drop 16).take (1 * 16384) = List.replicate n 0 := by
    have h : (blankImage n).drop 16 = List.replicate n 0 := rfl
    rw [h, List.take_of_length_le]
    rw [List.length_replicate]; omega
  unfold loadImage imageNeed
  rw [if_neg (by rw [hlen, ht]; simp), if_neg (by rw [hm]; simp), if_neg (by rw [hb]; decide),
    if_neg (by rw [hlen, ho, hb, hc]; omega)]
  unfold imageCartridge
  rw [hb, hc, hm, ho, hi, hr, ofBytes_replicate_zero]
  rfl

/-- `State.reset` is what loading the blank image leaves of a machine that has just been switched on (R320, R322; log 7). -/
theorem reset_is_blank_load : loadRom (blankImage 16384) State.powerOn =
    (.loaded (imageInfo (blankImage 16384)), State.reset) := by
  rw [loadRom_eq, loadImage_blank 16384 rfl]
  simp only
  rw [attachAndReset_eq]
  rfl

end Sys2Proof.Laws
end

