-- ==== Sys2Proof/Laws/Step.lean ====
section
/-!
SUPPORT. The laws of the fetch, of the CPU's step and of the frame's boundaries: everything each can do, said once.
-/

namespace Sys2Proof.Laws

open Sys2Proof.Machine

/-! ## What a CPU step keeps -/

/-- What any number of CPU steps leave as it was, and the forms they keep. -/
structure CpuFrame (s t : State) : Prop where
  attached : t.cartridgeAttached = s.cartridgeAttached
  params : t.params = s.params
  seq : t.seq = s.seq
  frameBuffer : t.ppu.frameBuffer = s.ppu.frameBuffer
  buttonMask : t.joypad.buttonMask = s.joypad.buttonMask
  prgBanks : t.cart.prgBanks = s.cart.prgBanks
  mapperId : t.cart.mapperId = s.cart.mapperId
  status : s.ppu.status = 0 → t.ppu.status = 0
  forms : Forms s → Forms t
  statusForm : StatusForm s.p → StatusForm t.p

theorem CpuFrame.refl (s : State) : CpuFrame s s :=
  ⟨rfl, rfl, rfl, rfl, rfl, rfl, rfl, id, id, id⟩

theorem CpuFrame.trans {s t u : State} (h : CpuFrame s t) (h' : CpuFrame t u) : CpuFrame s u :=
  ⟨h'.attached.trans h.attached, h'.params.trans h.params, h'.seq.trans h.seq, h'.frameBuffer.trans h.frameBuffer,
   h'.buttonMask.trans h.buttonMask, h'.prgBanks.trans h.prgBanks, h'.mapperId.trans h.mapperId,
   fun hs => h'.status (h.status hs), fun hs => h'.forms (h.forms hs), fun hs => h'.statusForm (h.statusForm hs)⟩

theorem Answer.cpuFrame {s t : State} (h : Answer s t) : CpuFrame s t := by
  obtain ⟨u, ⟨hu, hf⟩, ht⟩ := h.bus
  have hs := h.status
  obtain ⟨⟨_, _, _, _, _, rfl⟩, h1, h2, -, h4⟩ := hu
  rw [ht]
  refine ⟨rfl, rfl, rfl, h1, h2, rfl, rfl, h4, fun f => ?_, hs⟩
  exact { hf f with }

theorem Answer.nmiPending {s t : State} (h : Answer s t) : t.nmiPending = s.nmiPending := by
  obtain ⟨u, ⟨hu, -⟩, ht⟩ := h.bus
  rw [ht]; exact hu.eq_nmiPending

theorem cpuFrame_memRead (s : State) (a : Word) : CpuFrame s (memRead s a).2 := by
  have h := memRead_writeEffects s a
  exact ⟨h.eq_cartridgeAttached, h.eq_params, h.eq_seq, h.2.1, h.2.2.1, h.eq_prgBanks, h.eq_mapperId, h.2.2.2.2,
    fun f => f.memRead a, fun f => by rwa [h.eq_p]⟩

/-! ## Fetch -/

/-- Fetching a byte: `PC` moves past it; its read may touch a device. -/
theorem fetchByte_eq (s : State) : fetchByte s = ((memRead s s.pc).1, (memRead s s.pc).2.setPc (s.pc + 1)) := by
  simp only [fetchByte, memRead_pc]

theorem fetchByte_frame (s : State) : CpuFrame s (fetchByte s).2 := by
  rw [fetchByte_eq]
  have h := cpuFrame_memRead s s.pc
  exact { h with forms := fun f => { h.forms f with } }

theorem fetchBytes_pc (n : Nat) : ∀ s, (fetchBytes n s).2.pc = s.pc + BitVec.ofNat 16 n := by
  induction n with
  | zero => intro s; simp [fetchBytes]
  | succ n ih =>
    intro s
    simp only [fetchBytes, ih, fetchByte_eq, setPc_pc]
    rw [BitVec.ofNat_add, BitVec.add_comm (BitVec.ofNat 16 n), BitVec.add_assoc]
    rfl

theorem fetchBytes_frame (n : Nat) : ∀ s, CpuFrame s (fetchBytes n s).2 := by
  induction n with
  | zero => exact fun s => .refl s
  | succ n ih => exact fun s => (fetchByte_frame s).trans (ih _)

theorem fetchBytes_pending (n : Nat) : ∀ s, (fetchBytes n s).2.nmiPending = s.nmiPending ∧
    (fetchBytes n s).2.irqPending = s.irqPending := by
  induction n with
  | zero => exact fun s => ⟨rfl, rfl⟩
  | succ n ih => intro s; simp only [fetchBytes, ih, fetchByte_eq, setPc_nmiPending, setPc_irqPending, memRead_nmiPending,
      memRead_irqPending, and_self]

theorem fetchInstr_frame (s : State) : CpuFrame s (fetchInstr s).2 :=
  (fetchByte_frame s).trans (fetchBytes_frame _ _)

theorem fetchInstr_nmiPending (s : State) : (fetchInstr s).2.nmiPending = s.nmiPending := by
  simp only [fetchInstr, fetchBytes_pending, fetchByte_eq, setPc_nmiPending, memRead_nmiPending]

theorem length_fetchBytes (n : Nat) : ∀ s, (fetchBytes n s).1.length = n := by
  induction n with
  | zero => exact fun _ => rfl
  | succ n ih => intro s; simp only [fetchBytes, List.length_cons, ih]

/-- `PC` after a fetch is past the instruction: as many bytes as the opcode byte says (R72). -/
theorem fetchInstr_pc (s : State) :
    (fetchInstr s).2.pc = s.pc + BitVec.ofNat 16 (opcodeLength (memRead s s.pc).1) := by
  have hpos : 0 < opcodeLength (memRead s s.pc).1 := by
    unfold opcodeLength Instr.length; omega
  simp only [fetchInstr, fetchBytes_pc, fetchByte_eq, setPc_pc]
  rw [BitVec.add_assoc, show (1 : Word) = BitVec.ofNat 16 1 from rfl, ← BitVec.ofNat_add]
  congr 2; omega

/-- Fetching from memory: the bytes there, and only `PC` changes. -/
theorem fetchBytes_memory (n : Nat) : ∀ s : State,
    (∀ k < n, isMemory (s.pc + BitVec.ofNat 16 k) = true) →
    fetchBytes n s = ((List.range n).map fun k => (memRead s (s.pc + BitVec.ofNat 16 k)).1,
      s.setPc (s.pc + BitVec.ofNat 16 n)) := by
  induction n with
  | zero => intro s _; simp [fetchBytes, State.setPc]
  | succ n ih =>
    intro s h
    have h0 := h 0 (by omega)
    simp only [BitVec.add_zero] at h0
    have hpc : ∀ k, s.pc + 1 + BitVec.ofNat 16 k = s.pc + BitVec.ofNat 16 (k + 1) := by
      intro k
      rw [BitVec.add_assoc, show (1 : Word) = BitVec.ofNat 16 1 from rfl, ← BitVec.ofNat_add, Nat.add_comm]
    have hb : fetchByte s = ((memRead s s.pc).1, s.setPc (s.pc + 1)) := by
      rw [fetchByte_eq, memRead_memory s h0]
    have := ih (s.setPc (s.pc + 1)) (fun k hk => by
      rw [setPc_pc, hpc]; exact h (k + 1) (by omega))
    simp only [fetchBytes, hb, this, setPc_pc, hpc, List.range_succ_eq_map, List.map_cons, List.map_map]
    refine Prod.ext ?_ ?_
    · simp only [List.cons.injEq, BitVec.add_zero, BitVec.ofNat_eq_ofNat, true_and]
      refine List.map_congr_left fun k hk => ?_
      have hk' := h (k + 1) (by simp at hk; omega)
      simp only [Function.comp, Nat.succ_eq_add_one]
      rw [memRead_byte hk', memRead_byte hk']; rfl
    · rfl

/-! ## The CPU's step -/

/-- A service of an interrupt: only registers, latches and the stack change. -/
theorem raiseInterrupt_frame (s : State) (vector : Word) (h : 0x8000 ≤ vector.toNat) (h' : 0x8000 ≤ (vector + 1).toNat) :
    CpuFrame s (raiseInterrupt vector s) := by
  rw [raiseInterrupt, enterException_eq s _ _ h h']
  refine ⟨rfl, rfl, rfl, rfl, rfl, rfl, rfl, id, fun f => ?_, fun f => statusForm_put _ _ (by decide) f⟩
  exact { (busEffects_pushedFrame s s.pc (interruptStatus s.p)).2 f with }

/-- Every CPU step answers a next state, with a count of the parameters or 2 to 7, and with no NMI left pending. -/
theorem cpuStep_spec (s : State) : ∃ t, cpuStep s = .next t ∧ CpuFrame s t ∧ Counted s.params t.cycles ∧
    t.nmiPending = false := by
  unfold cpuStep
  have lift : ∀ {u : State}, CpuFrame s u → CpuFrame s (u.setCycles 7) := fun h =>
    { h with forms := fun f => { h.forms f with } }
  split
  · have h0 : CpuFrame s (s.setNmi false) := ⟨rfl, rfl, rfl, rfl, rfl, rfl, rfl, id, fun f => { f with }, id⟩
    have h1 := raiseInterrupt_frame (s.setNmi false) nmiVector (by decide) (by decide)
    refine ⟨_, rfl, lift (h0.trans h1), .inr (show 2 ≤ 7 ∧ 7 ≤ 7 by decide), ?_⟩
    rw [raiseInterrupt, enterException_eq _ _ _ (by decide) (by decide)]; rfl
  · rename_i hn
    split
    · have h0 : CpuFrame s (s.setIrq false) := ⟨rfl, rfl, rfl, rfl, rfl, rfl, rfl, id, fun f => { f with }, id⟩
      have h1 := raiseInterrupt_frame (s.setIrq false) irqVector (by decide) (by decide)
      refine ⟨_, rfl, lift (h0.trans h1), .inr (show 2 ≤ 7 ∧ 7 ≤ 7 by decide), ?_⟩
      rw [raiseInterrupt, enterException_eq _ _ _ (by decide) (by decide)]; simpa using hn
    · obtain ⟨t, h, ha⟩ := exec_answer (instrOfBytes (fetchInstr s).1) (fetchInstr s).2
      refine ⟨t, h, (fetchInstr_frame s).trans ha.cpuFrame, ?_, ?_⟩
      · rw [← (fetchInstr_frame s).params]; exact ha.cycles
     
      rw [ha.nmiPending, fetchInstr_nmiPending]; simpa using hn

/-! ## The frame's boundaries -/

/-- `startFrame` between frames. -/
theorem startFrame_idle {s : State} (h : s.seq.running = false) : startFrame s = { s with
    ppu := { s.ppu with status := s.ppu.status &&& 0x7F }, seq := { running := true, acc := 0 } } := by
  simp only [startFrame, h, Bool.false_eq_true, if_false]; rfl

theorem startFrame_running {s : State} (h : s.seq.running = true) : startFrame s = s := by
  simp only [startFrame, h, if_true]

/-- `endFrame`, whole. -/
theorem endFrame_eq (s : State) : endFrame s = { s with
    ppu := { s.ppu with status := s.ppu.status ||| 0x80, frameBuffer := (renderFrame s).ppu.frameBuffer },
    nmiPending := s.nmiPending || s.ppu.control.getLsbD 7 } := by
  have hc : (beginVBlank (renderFrame s)).ppu.control = s.ppu.control := by simp only [beginVBlank, renderFrame, setPpu_ppu]
  have hf : renderFrame s = s.setPpu { s.ppu with frameBuffer := (renderFrame s).ppu.frameBuffer } := by
    simp only [renderFrame, setPpu_ppu]
  unfold endFrame
  simp only [hc]
  rw [hf]
  generalize (renderFrame s).ppu.frameBuffer = fb
  cases h : s.ppu.control.getLsbD 7
  · simp only [Bool.false_eq_true, if_false, Bool.or_false]; rfl
  · simp only [if_true, Bool.or_true]; rfl

theorem renderFrame_length (s : State) : (renderFrame s).ppu.frameBuffer.length = 61440 := by
  simp [renderFrame, frameWidth, frameHeight]

/-- Rendering does not look at the sequencer. -/
theorem renderFrame_setSeq (s : State) (q : Sequencer) : renderFrame (s.setSeq q) = (renderFrame s).setSeq q := rfl

theorem step_next {s t : State} (hc : s.cartridgeAttached = true) (h : cpuStep (startFrame s) = .next t) :
    step s = .next (closeStep t) := by
  simp only [step, machineStep, hc, if_true, h]

theorem step_detached {s : State} (hc : s.cartridgeAttached = false) : step s = .next s := by
  simp only [step, machineStep, hc, Bool.false_eq_true, if_false]

end Sys2Proof.Laws
end

