-- ==== Sys2Proof/Laws/Sequencer.lean ====
section
/-!
SUPPORT. No CPU step looks at the sequencer's state: a step and a replacement of that state commute.
-/

namespace Sys2Proof.Laws

open Sys2Proof.Machine

variable (s : State) (q : Sequencer)

theorem memRead_setSeq (a : Word) : memRead (s.setSeq q) a = ((memRead s a).1, (memRead s a).2.setSeq q) := by
  unfold memRead
  simp only
  repeat' split
  all_goals first | rfl | skip
  unfold ppuRegRead
  repeat' split
  all_goals first | rfl | skip
  unfold readVideoData
  split <;> rename_i h <;> rw [setSeq_ppu] at h <;> simp only [h, if_true, if_false] <;> rfl

theorem ppuWrite_setSeq (b : VideoAddr) (v : Byte) : ppuWrite (s.setSeq q) b v = (ppuWrite s b v).setSeq q := by
  unfold ppuWrite
  simp only [setSeq_cart]
  repeat' split
  all_goals first | rfl | (simp only [*, if_true]; rfl)

theorem ppuRegWrite_setSeq (r : Nat) (v : Byte) : ppuRegWrite (s.setSeq q) r v = (ppuRegWrite s r v).setSeq q := by
  unfold ppuRegWrite writeScroll writeVideoAddress writeVideoData
  simp only [setSeq_ppu, ppuWrite_setSeq]
  repeat' split
  all_goals first | rfl | (simp only [*, if_true]; rfl)

theorem oamDma_setSeq (v : Byte) : oamDma v (s.setSeq q) = (oamDma v s).setSeq q := by
  have step : ∀ (s : State) (k : Nat), oamDmaStep v (s.setSeq q) k = (oamDmaStep v s k).setSeq q := by
    intro s k
    unfold oamDmaStep
    rw [memRead_setSeq]; rfl
  unfold oamDma
  generalize List.range 256 = l
  induction l generalizing s with
  | nil => rfl
  | cons k l ih => simp only [List.foldl_cons, step, ih]

theorem memWrite_setSeq (a : Word) (v : Byte) : memWrite (s.setSeq q) a v = (memWrite s a v).setSeq q := by
  unfold memWrite
  simp only [oamDma_setSeq, ppuRegWrite_setSeq]
  repeat' split
  all_goals first | rfl | (unfold joypadWrite; split <;> rfl)

theorem effAddr_setSeq (m : MemMode) : effAddr m (s.setSeq q) = effAddr m s :=
  effAddr_congr m rfl rfl rfl

theorem readOperand_setSeq (o : Operand) :
    readOperand o (s.setSeq q) = ((readOperand o s).1, (readOperand o s).2.setSeq q) := by
  cases o with
  | imm v => rfl
  | mem m => rw [readOperand_mem, readOperand_mem, effAddr_setSeq, memRead_setSeq]

/-- What an operation or an instruction does with another sequencer state: the same, and leaves that state. -/
def IgnoresSeq (f : State → Result) : Prop :=
  ∀ (s t : State) (q : Sequencer), f s = .next t → f (s.setSeq q) = .next (t.setSeq q)

/-- A meaning that passes its opcode's base cycle count to an operation. -/
theorem ignoresSeq_counted {f : Nat → State → Result} {g : State → Result} {op : Byte}
    (hg : ∀ s, g s = f (baseCount s.params op) s) (hf : ∀ n, IgnoresSeq (f n)) : IgnoresSeq g := by
  intro s t q h
  rw [hg] at h ⊢
  exact hf _ s t q h

theorem ignoresSeq_read (o : Operand) (n : Nat) :
    ∀ f ∈ [ldaOp o n, ldxOp o n, ldyOp o n, adcOp o n, sbcOp o n, andOp o n, oraOp o n, eorOp o n, cmpOp o n, cpxOp o n,
      cpyOp o n, bitOp o n], IgnoresSeq f := by
  intro f hf s t q h
  simp only [List.mem_cons, List.not_mem_nil, or_false] at hf
  rcases hf with rfl | rfl | rfl | rfl | rfl | rfl | rfl | rfl | rfl | rfl | rfl | rfl
  all_goals
    simp only [ldaOp, ldxOp, ldyOp, adcOp, sbcOp, andOp, oraOp, eorOp, cmpOp, cpxOp, cpyOp, bitOp, readOperand_setSeq] at *
    injection h with h; subst h; rfl

theorem ignoresSeq_store {f : MemMode → Nat → State → Result} {r : State → Byte}
    (hf : ∀ m n s, f m n s = storeByte m (r s) n s) (hr : ∀ s q, r (s.setSeq q) = r s) (m : MemMode) (n : Nat) :
    IgnoresSeq (f m n) := by
  intro s t q h
  rw [hf] at h ⊢
  unfold storeByte at *
  rw [hr, effAddr_setSeq, memWrite_setSeq]
  injection h with h; subst h; rfl

theorem ignoresSeq_modifyMem (f : Byte → Byte → Byte × Byte) (m : MemMode) (n : Nat) :
    IgnoresSeq (modifyMem f m n) := by
  intro s t q h
  simp only [modifyMem, effAddr_setSeq, memRead_setSeq] at *
  injection h with h; subst h
  have := memWrite_setSeq ((memRead s (effAddr m s)).2.setP (f (memRead s (effAddr m s)).1 (memRead s (effAddr m s)).2.p).2) q
    (effAddr m s) (f (memRead s (effAddr m s)).1 (memRead s (effAddr m s)).2.p).1
  exact congrArg (fun u => Host.Outcome.next (State.setCycles u n)) this

theorem ignoresSeq_branch {cond : State → Bool} (hc : ∀ s q, cond (s.setSeq q) = cond s) (off : Byte) :
    IgnoresSeq fun s => branchOn (cond s) off s := by
  intro s t q h
  simp only [hc] at *
  unfold branchOn at *
  split at h <;> rename_i hb <;> simp only [hb, if_true, Bool.false_eq_true, if_false] <;>
    injection h with h <;> subst h <;> rfl

theorem ignoresSeq_stack (w : Word) (n : Nat) :
    ∀ f ∈ [jsrOp w n, rtsOp n, phaOp n, phpOp n, plaOp n, plpOp n, brkOp n, rtiOp n], IgnoresSeq f := by
  intro f hf s t q h
  simp only [List.mem_cons, List.not_mem_nil, or_false] at hf
  rcases hf with rfl | rfl | rfl | rfl | rfl | rfl | rfl | rfl
  · rw [jsrOp_eq] at *; injection h with h; subst h; rfl
  · rw [rtsOp_eq] at *; injection h with h; subst h; rfl
  · rw [phaOp_eq] at *; injection h with h; subst h; rfl
  · rw [phpOp_eq] at *; injection h with h; subst h; rfl
  · rw [plaOp_eq] at *; injection h with h; subst h; rfl
  · rw [plpOp_eq] at *; injection h with h; subst h; rfl
  · rw [brkOp_eq, memRead_at_prgRom _ (by decide), memRead_at_prgRom _ (by decide)] at *; injection h with h; subst h; rfl
  · rw [rtiOp_eq] at *; injection h with h; subst h; rfl

/-- No instruction looks at the sequencer. -/
theorem exec_ignoresSeq (i : Instr) : IgnoresSeq (exec i) := by
  have h := exec_meaning i
  unfold Meaning at h
  split at h
  case h_12 => obtain ⟨m, -, h⟩ := h; exact ignoresSeq_counted h fun n => ignoresSeq_read (.mem m) n _ (by simp)
  case h_13 =>
    obtain ⟨m, -, h⟩ := h; exact ignoresSeq_counted h fun n => ignoresSeq_store (fun _ _ _ => rfl) (fun _ _ => rfl) m n
  case h_14 =>
    obtain ⟨m, -, h⟩ := h; exact ignoresSeq_counted h fun n => ignoresSeq_store (fun _ _ _ => rfl) (fun _ _ => rfl) m n
  case h_15 =>
    obtain ⟨m, -, h⟩ := h; exact ignoresSeq_counted h fun n => ignoresSeq_store (fun _ _ _ => rfl) (fun _ _ => rfl) m n
  case h_16 =>
    obtain ⟨m, -, h⟩ := h
    exact ignoresSeq_counted h fun n => ignoresSeq_modifyMem (fun b p => (b + 1, znStatus p (b + 1))) m n
  case h_17 =>
    obtain ⟨m, -, h⟩ := h
    exact ignoresSeq_counted h fun n => ignoresSeq_modifyMem (fun b p => (b - 1, znStatus p (b - 1))) m n
  case h_30 =>
    obtain ⟨a, rfl⟩ | ⟨a, rfl⟩ := h
    · intro s t q h; injection h with h; subst h; rfl
    · refine ignoresSeq_counted (f := jmpOpInd a) (op := 0x6C) (fun _ => rfl) fun n s t q h => ?_
      rw [jmpOpInd_eq] at *
      simp only [indirectTarget, memRead_setSeq] at *
      injection h with h; subst h; rfl
  case h_31 =>
    obtain ⟨a, rfl⟩ := h
    exact ignoresSeq_counted (f := jsrOp a) (op := 0x20) (fun _ => rfl) fun n => ignoresSeq_stack a n _ (by simp)
  case h_57 => obtain ⟨-, -, h⟩ := h; rw [h]; intro s t q h; injection h with h; subst h; rfl
  case h_18 =>
    obtain ⟨-, h⟩ | ⟨m, -, h⟩ := h
    · exact ignoresSeq_counted h fun n s t q h => by injection h with h; subst h; rfl
    · exact ignoresSeq_counted h fun n => ignoresSeq_modifyMem (shiftWith aslByte) m n
  case h_19 =>
    obtain ⟨-, h⟩ | ⟨m, -, h⟩ := h
    · exact ignoresSeq_counted h fun n s t q h => by injection h with h; subst h; rfl
    · exact ignoresSeq_counted h fun n => ignoresSeq_modifyMem (shiftWith lsrByte) m n
  case h_20 =>
    obtain ⟨-, h⟩ | ⟨m, -, h⟩ := h
    · exact ignoresSeq_counted h fun n s t q h => by injection h with h; subst h; rfl
    · exact ignoresSeq_counted h fun n => ignoresSeq_modifyMem (shiftWith rolByte) m n
  case h_21 =>
    obtain ⟨-, h⟩ | ⟨m, -, h⟩ := h
    · exact ignoresSeq_counted h fun n s t q h => by injection h with h; subst h; rfl
    · exact ignoresSeq_counted h fun n => ignoresSeq_modifyMem (shiftWith rorByte) m n
  case h_22 =>
    obtain ⟨off, -, -, h⟩ := h; rw [h]
    exact ignoresSeq_branch (cond := fun s => !s.flag .N) (fun _ _ => rfl) off
  case h_23 =>
    obtain ⟨off, -, -, h⟩ := h; rw [h]
    exact ignoresSeq_branch (cond := fun s => s.flag .N) (fun _ _ => rfl) off
  case h_24 =>
    obtain ⟨off, -, -, h⟩ := h; rw [h]
    exact ignoresSeq_branch (cond := fun s => !s.flag .V) (fun _ _ => rfl) off
  case h_25 =>
    obtain ⟨off, -, -, h⟩ := h; rw [h]
    exact ignoresSeq_branch (cond := fun s => s.flag .V) (fun _ _ => rfl) off
  case h_26 =>
    obtain ⟨off, -, -, h⟩ := h; rw [h]
    exact ignoresSeq_branch (cond := fun s => !s.flag .C) (fun _ _ => rfl) off
  case h_27 =>
    obtain ⟨off, -, -, h⟩ := h; rw [h]
    exact ignoresSeq_branch (cond := fun s => s.flag .C) (fun _ _ => rfl) off
  case h_28 =>
    obtain ⟨off, -, -, h⟩ := h; rw [h]
    exact ignoresSeq_branch (cond := fun s => !s.flag .Z) (fun _ _ => rfl) off
  case h_29 =>
    obtain ⟨off, -, -, h⟩ := h; rw [h]
    exact ignoresSeq_branch (cond := fun s => s.flag .Z) (fun _ _ => rfl) off
  iterate 11 (obtain ⟨o, -, h⟩ := h; exact ignoresSeq_counted h fun n => ignoresSeq_read o n _ (by simp))
  case h_42 =>
    subst h
    exact ignoresSeq_counted (f := rtsOp) (op := 0x60) (fun _ => rfl) fun n => ignoresSeq_stack 0 n _ (by simp)
  case h_43 =>
    subst h
    exact ignoresSeq_counted (f := phaOp) (op := 0x48) (fun _ => rfl) fun n => ignoresSeq_stack 0 n _ (by simp)
  case h_44 =>
    subst h
    exact ignoresSeq_counted (f := phpOp) (op := 0x08) (fun _ => rfl) fun n => ignoresSeq_stack 0 n _ (by simp)
  case h_45 =>
    subst h
    exact ignoresSeq_counted (f := plaOp) (op := 0x68) (fun _ => rfl) fun n => ignoresSeq_stack 0 n _ (by simp)
  case h_46 =>
    subst h
    exact ignoresSeq_counted (f := plpOp) (op := 0x28) (fun _ => rfl) fun n => ignoresSeq_stack 0 n _ (by simp)
  case h_55 =>
    subst h
    exact ignoresSeq_counted (f := brkOp) (op := 0x00) (fun _ => rfl) fun n => ignoresSeq_stack 0 n _ (by simp)
  case h_56 =>
    subst h
    exact ignoresSeq_counted (f := rtiOp) (op := 0x40) (fun _ => rfl) fun n => ignoresSeq_stack 0 n _ (by simp)
  all_goals subst h; intro s t q h; injection h with h; subst h; rfl

theorem fetchByte_setSeq : fetchByte (s.setSeq q) = ((fetchByte s).1, (fetchByte s).2.setSeq q) := by
  rw [fetchByte_eq, fetchByte_eq]
  simp only [setSeq_pc, memRead_setSeq]; rfl

theorem fetchBytes_setSeq (n : Nat) : ∀ s : State,
    fetchBytes n (s.setSeq q) = ((fetchBytes n s).1, (fetchBytes n s).2.setSeq q) := by
  induction n with
  | zero => exact fun _ => rfl
  | succ n ih => intro s; simp only [fetchBytes, fetchByte_setSeq, ih]

theorem fetchInstr_setSeq : fetchInstr (s.setSeq q) = ((fetchInstr s).1, (fetchInstr s).2.setSeq q) := by
  simp only [fetchInstr, fetchByte_setSeq, fetchBytes_setSeq]

/-- No CPU step looks at the sequencer. -/
theorem cpuStep_ignoresSeq : IgnoresSeq cpuStep := by
  intro s t q h
  have hr : ∀ (v : Word) (u : State), 0x8000 ≤ v.toNat → 0x8000 ≤ (v + 1).toNat →
      raiseInterrupt v (u.setSeq q) = (raiseInterrupt v u).setSeq q := by
    intro v u h1 h2
    simp only [raiseInterrupt, enterException_eq _ _ _ h1 h2, memRead_at_prgRom _ h1, memRead_at_prgRom _ h2]; rfl
  unfold cpuStep at *
  cases hn : s.nmiPending
  · rw [hn] at h
    simp only [setSeq_nmiPending, hn, Bool.false_eq_true, if_false] at *
    have hi : irqTaken (s.setSeq q) = irqTaken s := rfl
    rw [hi]
    cases hq : irqTaken s
    · rw [hq] at h
      simp only [Bool.false_eq_true, if_false, fetchInstr_setSeq] at *
      exact exec_ignoresSeq _ _ _ q h
    · rw [hq] at h
      simp only [if_true] at *
      injection h with h; subst h
      exact congrArg (complete 7) (hr irqVector (s.setIrq false) (by decide) (by decide))
  · rw [hn] at h
    simp only [setSeq_nmiPending, hn, if_true] at *
    injection h with h; subst h
    exact congrArg (complete 7) (hr nmiVector (s.setNmi false) (by decide) (by decide))

/-- A run of one step more. -/
theorem run_next {s t : State} (n : Nat) (h : step s = .next t) : core.run (n + 1) s = core.run n t := by
  have : core.step s = .next t := h
  simp only [Host.Core.run, this]

end Sys2Proof.Laws
end

