-- ==== Sys2Proof/Tests/Slice0.lean ====
section
/-!
SUPPORT. Tests of the model on small states, with expected results from spec/95_test_vectors.md (V-…) or worked out by hand
from the rule named; and, for every obligation that has hypotheses, a witness that meets them.
-/

namespace Sys2Proof.Tests

open Sys2Proof Sys2Proof.Machine

/-! ## Helpers -/

/-- The start state of 95_test_vectors.md: after reset, with `PC`, `A`, `X`, `Y`, `SP`, `P` given and HORIZONTAL mirroring. -/
def testState (pc : Word) (a x y sp p : Byte) : State :=
  { State.reset with
    pc := pc, a := a, x := x, y := y, sp := sp, p := p, cart := { blankCartridge with mirroring := .horizontal } }

/-- A state with bytes placed at CPU addresses, program ROM included. -/
def holding (s : State) (bs : List (Word × Byte)) : State := bs.foldl (fun t b => place t b.1 b.2) s

/-- `A`, `X`, `Y`, `SP`, `P`, `PC` and what `step()` returned, after a next state. -/
def regs (r : Result) : Option (List Nat) :=
  match r with
  | .next s => some [s.a.toNat, s.x.toNat, s.y.toNat, s.sp.toNat, s.p.toNat, s.pc.toNat, s.cycles]
  | _ => none

/-- The bytes that the CPU bus reads at some addresses, after a next state. -/
def bytesAt (r : Result) (as : List Word) : Option (List Byte) :=
  match r with
  | .next s => some (as.map fun a => (memRead s a).1)
  | _ => none

/-- The state after writing bytes to CPU addresses, in order. -/
def writing (s : State) (bs : List (Word × Byte)) : State := bs.foldl (fun t b => memWrite t b.1 b.2) s

/-- The bytes of successive reads of CPU addresses, and the state after them. -/
def reading (s : State) : List Word → List Byte × State
  | [] => ([], s)
  | a :: as =>
    let r := memRead s a
    let rest := reading r.2 as
    (r.1 :: rest.1, rest.2)

/-- The idle test state. -/
def idle : State := testState 0x8000 0 0 0 0xFD 0x24

/-! ## Decoding: every row of the opcode map (R86, R87), its bytes written out with operand bytes 34 and 12 -/

theorem test_decode_row_0 :
    [(8, 0x00), (16, 0x3401), (8, 0x02), (8, 0x03), (8, 0x04), (16, 0x3405), (16, 0x3406), (8, 0x07), (8, 0x08),
      (16, 0x3409), (8, 0x0A), (8, 0x0B), (8, 0x0C), (24, 0x12340D), (24, 0x12340E), (8, 0x0F)].map
      (fun w => decodeTableWord w.1 w.2) =
    [some .brk, some (.oraIzx 0x34), some .unassigned02, some .unassigned03, some .unassigned04,
      some (.oraZp 0x34), some (.aslZp 0x34), some .unassigned07, some .php, some (.oraImm 0x34), some .aslAcc,
      some .unassigned0B, some .unassigned0C, some (.oraAbs 0x1234), some (.aslAbs 0x1234), some .unassigned0F] := by decide

theorem test_decode_row_1 :
    [(16, 0x3410), (16, 0x3411), (8, 0x12), (8, 0x13), (8, 0x14), (16, 0x3415), (16, 0x3416), (8, 0x17),
      (8, 0x18), (24, 0x123419), (8, 0x1A), (8, 0x1B), (8, 0x1C), (24, 0x12341D), (24, 0x12341E), (8, 0x1F)].map
      (fun w => decodeTableWord w.1 w.2) =
    [some (.bpl 0x34), some (.oraIzy 0x34), some .unassigned12, some .unassigned13, some .unassigned14,
      some (.oraZpx 0x34), some (.aslZpx 0x34), some .unassigned17, some .clc, some (.oraAby 0x1234),
      some .unassigned1A, some .unassigned1B, some .unassigned1C, some (.oraAbx 0x1234), some (.aslAbx 0x1234),
      some .unassigned1F] := by decide

theorem test_decode_row_2 :
    [(24, 0x123420), (16, 0x3421), (8, 0x22), (8, 0x23), (16, 0x3424), (16, 0x3425), (16, 0x3426), (8, 0x27),
      (8, 0x28), (16, 0x3429), (8, 0x2A), (8, 0x2B), (24, 0x12342C), (24, 0x12342D), (24, 0x12342E), (8, 0x2F)].map
      (fun w => decodeTableWord w.1 w.2) =
    [some (.jsr 0x1234), some (.andIzx 0x34), some .unassigned22, some .unassigned23, some (.bitZp 0x34),
      some (.andZp 0x34), some (.rolZp 0x34), some .unassigned27, some .plp, some (.andImm 0x34), some .rolAcc,
      some .unassigned2B, some (.bitAbs 0x1234), some (.andAbs 0x1234), some (.rolAbs 0x1234), some .unassigned2F] := by decide

theorem test_decode_row_3 :
    [(16, 0x3430), (16, 0x3431), (8, 0x32), (8, 0x33), (8, 0x34), (16, 0x3435), (16, 0x3436), (8, 0x37),
      (8, 0x38), (24, 0x123439), (8, 0x3A), (8, 0x3B), (8, 0x3C), (24, 0x12343D), (24, 0x12343E), (8, 0x3F)].map
      (fun w => decodeTableWord w.1 w.2) =
    [some (.bmi 0x34), some (.andIzy 0x34), some .unassigned32, some .unassigned33, some .unassigned34,
      some (.andZpx 0x34), some (.rolZpx 0x34), some .unassigned37, some .sec, some (.andAby 0x1234),
      some .unassigned3A, some .unassigned3B, some .unassigned3C, some (.andAbx 0x1234), some (.rolAbx 0x1234),
      some .unassigned3F] := by decide

theorem test_decode_row_4 :
    [(8, 0x40), (16, 0x3441), (8, 0x42), (8, 0x43), (8, 0x44), (16, 0x3445), (16, 0x3446), (8, 0x47), (8, 0x48),
      (16, 0x3449), (8, 0x4A), (8, 0x4B), (24, 0x12344C), (24, 0x12344D), (24, 0x12344E), (8, 0x4F)].map
      (fun w => decodeTableWord w.1 w.2) =
    [some .rti, some (.eorIzx 0x34), some .unassigned42, some .unassigned43, some .unassigned44,
      some (.eorZp 0x34), some (.lsrZp 0x34), some .unassigned47, some .pha, some (.eorImm 0x34), some .lsrAcc,
      some .unassigned4B, some (.jmpAbs 0x1234), some (.eorAbs 0x1234), some (.lsrAbs 0x1234), some .unassigned4F] := by decide

theorem test_decode_row_5 :
    [(16, 0x3450), (16, 0x3451), (8, 0x52), (8, 0x53), (8, 0x54), (16, 0x3455), (16, 0x3456), (8, 0x57),
      (8, 0x58), (24, 0x123459), (8, 0x5A), (8, 0x5B), (8, 0x5C), (24, 0x12345D), (24, 0x12345E), (8, 0x5F)].map
      (fun w => decodeTableWord w.1 w.2) =
    [some (.bvc 0x34), some (.eorIzy 0x34), some .unassigned52, some .unassigned53, some .unassigned54,
      some (.eorZpx 0x34), some (.lsrZpx 0x34), some .unassigned57, some .cli, some (.eorAby 0x1234),
      some .unassigned5A, some .unassigned5B, some .unassigned5C, some (.eorAbx 0x1234), some (.lsrAbx 0x1234),
      some .unassigned5F] := by decide

theorem test_decode_row_6 :
    [(8, 0x60), (16, 0x3461), (8, 0x62), (8, 0x63), (8, 0x64), (16, 0x3465), (16, 0x3466), (8, 0x67), (8, 0x68),
      (16, 0x3469), (8, 0x6A), (8, 0x6B), (24, 0x12346C), (24, 0x12346D), (24, 0x12346E), (8, 0x6F)].map
      (fun w => decodeTableWord w.1 w.2) =
    [some .rts, some (.adcIzx 0x34), some .unassigned62, some .unassigned63, some .unassigned64,
      some (.adcZp 0x34), some (.rorZp 0x34), some .unassigned67, some .pla, some (.adcImm 0x34), some .rorAcc,
      some .unassigned6B, some (.jmpInd 0x1234), some (.adcAbs 0x1234), some (.rorAbs 0x1234), some .unassigned6F] := by decide

theorem test_decode_row_7 :
    [(16, 0x3470), (16, 0x3471), (8, 0x72), (8, 0x73), (8, 0x74), (16, 0x3475), (16, 0x3476), (8, 0x77),
      (8, 0x78), (24, 0x123479), (8, 0x7A), (8, 0x7B), (8, 0x7C), (24, 0x12347D), (24, 0x12347E), (8, 0x7F)].map
      (fun w => decodeTableWord w.1 w.2) =
    [some (.bvs 0x34), some (.adcIzy 0x34), some .unassigned72, some .unassigned73, some .unassigned74,
      some (.adcZpx 0x34), some (.rorZpx 0x34), some .unassigned77, some .sei, some (.adcAby 0x1234),
      some .unassigned7A, some .unassigned7B, some .unassigned7C, some (.adcAbx 0x1234), some (.rorAbx 0x1234),
      some .unassigned7F] := by decide

theorem test_decode_row_8 :
    [(8, 0x80), (16, 0x3481), (8, 0x82), (8, 0x83), (16, 0x3484), (16, 0x3485), (16, 0x3486), (8, 0x87),
      (8, 0x88), (8, 0x89), (8, 0x8A), (8, 0x8B), (24, 0x12348C), (24, 0x12348D), (24, 0x12348E), (8, 0x8F)].map
      (fun w => decodeTableWord w.1 w.2) =
    [some .unassigned80, some (.staIzx 0x34), some .unassigned82, some .unassigned83, some (.styZp 0x34),
      some (.staZp 0x34), some (.stxZp 0x34), some .unassigned87, some .dey, some .unassigned89, some .txa,
      some .unassigned8B, some (.styAbs 0x1234), some (.staAbs 0x1234), some (.stxAbs 0x1234), some .unassigned8F] := by decide

theorem test_decode_row_9 :
    [(16, 0x3490), (16, 0x3491), (8, 0x92), (8, 0x93), (16, 0x3494), (16, 0x3495), (16, 0x3496), (8, 0x97),
      (8, 0x98), (24, 0x123499), (8, 0x9A), (8, 0x9B), (8, 0x9C), (24, 0x12349D), (8, 0x9E), (8, 0x9F)].map
      (fun w => decodeTableWord w.1 w.2) =
    [some (.bcc 0x34), some (.staIzy 0x34), some .unassigned92, some .unassigned93, some (.styZpx 0x34),
      some (.staZpx 0x34), some (.stxZpy 0x34), some .unassigned97, some .tya, some (.staAby 0x1234), some .txs,
      some .unassigned9B, some .unassigned9C, some (.staAbx 0x1234), some .unassigned9E, some .unassigned9F] := by decide

theorem test_decode_row_A :
    [(16, 0x34A0), (16, 0x34A1), (16, 0x34A2), (8, 0xA3), (16, 0x34A4), (16, 0x34A5), (16, 0x34A6), (8, 0xA7),
      (8, 0xA8), (16, 0x34A9), (8, 0xAA), (8, 0xAB), (24, 0x1234AC), (24, 0x1234AD), (24, 0x1234AE), (8, 0xAF)].map
      (fun w => decodeTableWord w.1 w.2) =
    [some (.ldyImm 0x34), some (.ldaIzx 0x34), some (.ldxImm 0x34), some .unassignedA3, some (.ldyZp 0x34),
      some (.ldaZp 0x34), some (.ldxZp 0x34), some .unassignedA7, some .tay, some (.ldaImm 0x34), some .tax,
      some .unassignedAB, some (.ldyAbs 0x1234), some (.ldaAbs 0x1234), some (.ldxAbs 0x1234), some .unassignedAF] := by decide

theorem test_decode_row_B :
    [(16, 0x34B0), (16, 0x34B1), (8, 0xB2), (8, 0xB3), (16, 0x34B4), (16, 0x34B5), (16, 0x34B6), (8, 0xB7),
      (8, 0xB8), (24, 0x1234B9), (8, 0xBA), (8, 0xBB), (24, 0x1234BC), (24, 0x1234BD), (24, 0x1234BE), (8, 0xBF)].map
      (fun w => decodeTableWord w.1 w.2) =
    [some (.bcs 0x34), some (.ldaIzy 0x34), some .unassignedB2, some .unassignedB3, some (.ldyZpx 0x34),
      some (.ldaZpx 0x34), some (.ldxZpy 0x34), some .unassignedB7, some .clv, some (.ldaAby 0x1234), some .tsx,
      some .unassignedBB, some (.ldyAbx 0x1234), some (.ldaAbx 0x1234), some (.ldxAby 0x1234), some .unassignedBF] := by decide

theorem test_decode_row_C :
    [(16, 0x34C0), (16, 0x34C1), (8, 0xC2), (8, 0xC3), (16, 0x34C4), (16, 0x34C5), (16, 0x34C6), (8, 0xC7),
      (8, 0xC8), (16, 0x34C9), (8, 0xCA), (8, 0xCB), (24, 0x1234CC), (24, 0x1234CD), (24, 0x1234CE), (8, 0xCF)].map
      (fun w => decodeTableWord w.1 w.2) =
    [some (.cpyImm 0x34), some (.cmpIzx 0x34), some .unassignedC2, some .unassignedC3, some (.cpyZp 0x34),
      some (.cmpZp 0x34), some (.decZp 0x34), some .unassignedC7, some .iny, some (.cmpImm 0x34), some .dex,
      some .unassignedCB, some (.cpyAbs 0x1234), some (.cmpAbs 0x1234), some (.decAbs 0x1234), some .unassignedCF] := by decide

theorem test_decode_row_D :
    [(16, 0x34D0), (16, 0x34D1), (8, 0xD2), (8, 0xD3), (8, 0xD4), (16, 0x34D5), (16, 0x34D6), (8, 0xD7),
      (8, 0xD8), (24, 0x1234D9), (8, 0xDA), (8, 0xDB), (8, 0xDC), (24, 0x1234DD), (24, 0x1234DE), (8, 0xDF)].map
      (fun w => decodeTableWord w.1 w.2) =
    [some (.bne 0x34), some (.cmpIzy 0x34), some .unassignedD2, some .unassignedD3, some .unassignedD4,
      some (.cmpZpx 0x34), some (.decZpx 0x34), some .unassignedD7, some .cld, some (.cmpAby 0x1234),
      some .unassignedDA, some .unassignedDB, some .unassignedDC, some (.cmpAbx 0x1234), some (.decAbx 0x1234),
      some .unassignedDF] := by decide

theorem test_decode_row_E :
    [(16, 0x34E0), (16, 0x34E1), (8, 0xE2), (8, 0xE3), (16, 0x34E4), (16, 0x34E5), (16, 0x34E6), (8, 0xE7),
      (8, 0xE8), (16, 0x34E9), (8, 0xEA), (8, 0xEB), (24, 0x1234EC), (24, 0x1234ED), (24, 0x1234EE), (8, 0xEF)].map
      (fun w => decodeTableWord w.1 w.2) =
    [some (.cpxImm 0x34), some (.sbcIzx 0x34), some .unassignedE2, some .unassignedE3, some (.cpxZp 0x34),
      some (.sbcZp 0x34), some (.incZp 0x34), some .unassignedE7, some .inx, some (.sbcImm 0x34), some .nop,
      some .unassignedEB, some (.cpxAbs 0x1234), some (.sbcAbs 0x1234), some (.incAbs 0x1234), some .unassignedEF] := by decide

theorem test_decode_row_F :
    [(16, 0x34F0), (16, 0x34F1), (8, 0xF2), (8, 0xF3), (8, 0xF4), (16, 0x34F5), (16, 0x34F6), (8, 0xF7),
      (8, 0xF8), (24, 0x1234F9), (8, 0xFA), (8, 0xFB), (8, 0xFC), (24, 0x1234FD), (24, 0x1234FE), (8, 0xFF)].map
      (fun w => decodeTableWord w.1 w.2) =
    [some (.beq 0x34), some (.sbcIzy 0x34), some .unassignedF2, some .unassignedF3, some .unassignedF4,
      some (.sbcZpx 0x34), some (.incZpx 0x34), some .unassignedF7, some .sed, some (.sbcAby 0x1234),
      some .unassignedFA, some .unassignedFB, some .unassignedFC, some (.sbcAbx 0x1234), some (.incAbx 0x1234),
      some .unassignedFF] := by decide

/-- R72: a byte list that ends before its operand holds no instruction. -/
theorem test_decode_short : decode [0xAD, 0x34] = .error .missingOperand := by decide

/-- The rest of the bytes is left. -/
theorem test_decode_rest : decode [0xA9, 0x42, 0x60] = .ok (.ldaImm 0x42, [0x60]) := by decide

/-- R71: operand words are little-endian. -/
theorem test_encode : encode (.jmpInd 0x10FF) = [0x6C, 0xFF, 0x10] ∧ encode (.ldaImm 0x42) = [0xA9, 0x42] := by decide

/-! ## Well-formedness: forms with no cell in R86 are refused, one for each mnemonic that has operands -/

theorem test_wellFormed_refuses :
    [(Mnemonic.sta, Mode.imm 0x12), (.stx, .imm 0x12), (.sty, .imm 0x12), (.stx, .mem (.zpx 0x12)), (.sty, .mem (.zpy 0x12)),
     (.ldx, .mem (.zpx 0x12)), (.ldx, .mem (.abx 0x1234)), (.ldy, .mem (.zpy 0x12)), (.ldy, .mem (.aby 0x1234)),
     (.lda, .mem (.zpy 0x12)), (.lda, .imp), (.adc, .acc), (.sbc, .acc), (.and, .mem (.zpy 0x12)), (.ora, .imp),
     (.eor, .rel 0x12), (.cmp, .mem (.zpy 0x12)), (.cpx, .mem (.zpx 0x12)), (.cpy, .mem (.izy 0x12)), (.bit, .imm 0x12),
     (.inc, .acc), (.dec, .mem (.aby 0x1234)), (.asl, .imm 0x12), (.lsr, .mem (.izx 0x12)), (.rol, .mem (.aby 0x1234)),
     (.ror, .imp), (.jmp, .rel 0x12), (.jmp, .mem (.abx 0x1234)), (.jsr, .ind 0x1234)].all
      (fun f => !formWellFormed f) = true := by decide

theorem test_wellFormed_refuses_operands :
    [Mnemonic.tax, .tay, .txa, .tya, .tsx, .txs, .inx, .iny, .dex, .dey, .rts, .pha, .php, .pla, .plp, .clc, .sec, .cli,
     .sei, .cld, .sed, .clv, .nop, .brk, .rti, .unassigned].all
      (fun m => !formWellFormed (m, .acc) && !formWellFormed (m, .imm 0x12)) = true := by decide

theorem test_wellFormed_branches :
    [Mnemonic.bpl, .bmi, .bvc, .bvs, .bcc, .bcs, .bne, .beq].all
      (fun m => !formWellFormed (m, .imp) && !formWellFormed (m, .mem (.abs 0x1234)) && formWellFormed (m, .rel 0x12)) = true := by
  decide

theorem test_wellFormed_accepts : (Instr.staIzy 0x12).wellFormed = true ∧ Instr.unassigned02.wellFormed = true := by decide

/-! ## One step of each instruction (95_test_vectors.md part 2) -/

/-- V-L4: LDA zpx wraps in page 0. -/
theorem test_L4 :
    regs (step (holding (testState 0x8000 0x00 0x20 0x00 0xFD 0x24)
      [(0x8000, 0xB5), (0x8001, 0xF0), (0x0010, 0x77), (0x0110, 0x99)])) =
      some [0x0077, 0x0020, 0x0000, 0x00FD, 0x0024, 0x8002, 4] := by decide

/-- V-L7: LDA izx pointer at $FF wraps. -/
theorem test_L7 :
    regs (step (holding (testState 0x8000 0x00 0x05 0x00 0xFD 0x24)
      [(0x8000, 0xA1), (0x8001, 0xFA), (0x00FF, 0x34), (0x0000, 0x02), (0x0100, 0x07), (0x0234, 0xAB), (0x0734, 0xCD)])) =
      some [0x00AB, 0x0005, 0x0000, 0x00FD, 0x00A4, 0x8002, 6] := by decide

/-- V-L9: LDX zpy. -/
theorem test_L9 :
    regs (step (holding (testState 0x8000 0x00 0x00 0xFF 0xFD 0x24)
      [(0x8000, 0xB6), (0x8001, 0x80), (0x007F, 0x01)])) =
      some [0x0000, 0x0001, 0x00FF, 0x00FD, 0x0024, 0x8002, 4] := by decide

/-- V-L10: LDY abx. -/
theorem test_L10 :
    regs (step (holding (testState 0x8000 0x00 0x04 0x09 0xFD 0x24)
      [(0x8000, 0xBC), (0x8001, 0x00), (0x8002, 0x03), (0x0304, 0x00)])) =
      some [0x0000, 0x0004, 0x0000, 0x00FD, 0x0026, 0x8003, 4] := by decide

/-- V-L11: STA abs to RAM mirror $0800. -/
theorem test_L11 :
    let r := step (holding (testState 0x8000 0x3C 0x00 0x00 0xFD 0x24)
      [(0x8000, 0x8D), (0x8001, 0x05), (0x8002, 0x08)])
    regs r = some [0x003C, 0x0000, 0x0000, 0x00FD, 0x0024, 0x8003, 4] ∧
      bytesAt r [0x0005] = some [0x3C] := by decide

/-- V-L12: STA izy. -/
theorem test_L12 :
    let r := step (holding (testState 0x8000 0x11 0x00 0x01 0xFD 0x24)
      [(0x8000, 0x91), (0x8001, 0x20), (0x0020, 0xFF), (0x0021, 0x01)])
    regs r = some [0x0011, 0x0000, 0x0001, 0x00FD, 0x0024, 0x8002, 6] ∧
      bytesAt r [0x0200] = some [0x11] := by decide

/-- V-L13: STX zpy, flags untouched. -/
theorem test_L13 :
    let r := step (holding (testState 0x8000 0x00 0x00 0x05 0xFD 0xA4)
      [(0x8000, 0x96), (0x8001, 0x10), (0x0015, 0xEE)])
    regs r = some [0x0000, 0x0000, 0x0005, 0x00FD, 0x00A4, 0x8002, 4] ∧
      bytesAt r [0x0015] = some [0x00] := by decide

/-- V-L14: STY abs to ROM is dropped. -/
theorem test_L14 :
    regs (step (holding (testState 0x8000 0x00 0x00 0x12 0xFD 0x24)
      [(0x8000, 0x8C), (0x8001, 0x00), (0x8002, 0x80)])) =
      some [0x0000, 0x0000, 0x0012, 0x00FD, 0x0024, 0x8003, 4] := by decide

/-- V-L15: TAX sets N. -/
theorem test_L15 :
    regs (step (holding (testState 0x8000 0x80 0x00 0x00 0xFD 0x24)
      [(0x8000, 0xAA)])) =
      some [0x0080, 0x0080, 0x0000, 0x00FD, 0x00A4, 0x8001, 2] := by decide

/-- V-L16: TXS sets no flag. -/
theorem test_L16 :
    regs (step (holding (testState 0x8000 0x00 0x00 0x00 0xFD 0x24)
      [(0x8000, 0x9A)])) =
      some [0x0000, 0x0000, 0x0000, 0x0000, 0x0024, 0x8001, 2] := by decide

/-- V-L17: TSX sets Z/N from SP. -/
theorem test_L17 :
    regs (step (holding (testState 0x8000 0x00 0x00 0x00 0xFD 0x24)
      [(0x8000, 0xBA)])) =
      some [0x0000, 0x00FD, 0x0000, 0x00FD, 0x00A4, 0x8001, 2] := by decide

/-- V-L18: TYA zero. -/
theorem test_L18 :
    regs (step (holding (testState 0x8000 0x33 0x00 0x00 0xFD 0x24)
      [(0x8000, 0x98)])) =
      some [0x0000, 0x0000, 0x0000, 0x00FD, 0x0026, 0x8001, 2] := by decide

/-- V-A5: ADC signed overflow neg+neg. -/
theorem test_A5 :
    regs (step (holding (testState 0x8000 0xD0 0x00 0x00 0xFD 0x24)
      [(0x8000, 0x69), (0x8001, 0x90)])) =
      some [0x0060, 0x0000, 0x0000, 0x00FD, 0x0065, 0x8002, 2] := by decide

/-- V-A8: ADC $7F+$00+C overflow. -/
theorem test_A8 :
    regs (step (holding (testState 0x8000 0x7F 0x00 0x00 0xFD 0x25)
      [(0x8000, 0x69), (0x8001, 0x00)])) =
      some [0x0080, 0x0000, 0x0000, 0x00FD, 0x00E4, 0x8002, 2] := by decide

/-- V-A10: SBC with borrow in. -/
theorem test_A10 :
    regs (step (holding (testState 0x8000 0x50 0x00 0x00 0xFD 0x24)
      [(0x8000, 0xE9), (0x8001, 0x10)])) =
      some [0x003F, 0x0000, 0x0000, 0x00FD, 0x0025, 0x8002, 2] := by decide

/-- V-A12: SBC overflow. -/
theorem test_A12 :
    regs (step (holding (testState 0x8000 0x80 0x00 0x00 0xFD 0x25)
      [(0x8000, 0xE9), (0x8001, 0x01)])) =
      some [0x007F, 0x0000, 0x0000, 0x00FD, 0x0065, 0x8002, 2] := by decide

/-- V-A15: AND. -/
theorem test_A15 :
    regs (step (holding (testState 0x8000 0xF0 0x00 0x00 0xFD 0x24)
      [(0x8000, 0x29), (0x8001, 0x0F)])) =
      some [0x0000, 0x0000, 0x0000, 0x00FD, 0x0026, 0x8002, 2] := by decide

/-- V-A16: ORA. -/
theorem test_A16 :
    regs (step (holding (testState 0x8000 0x01 0x00 0x00 0xFD 0x24)
      [(0x8000, 0x09), (0x8001, 0x80)])) =
      some [0x0081, 0x0000, 0x0000, 0x00FD, 0x00A4, 0x8002, 2] := by decide

/-- V-A17: EOR. -/
theorem test_A17 :
    regs (step (holding (testState 0x8000 0xFF 0x00 0x00 0xFD 0x24)
      [(0x8000, 0x49), (0x8001, 0xFF)])) =
      some [0x0000, 0x0000, 0x0000, 0x00FD, 0x0026, 0x8002, 2] := by decide

/-- V-A20: CMP less. -/
theorem test_A20 :
    regs (step (holding (testState 0x8000 0x20 0x00 0x00 0xFD 0x25)
      [(0x8000, 0xC9), (0x8001, 0x30)])) =
      some [0x0020, 0x0000, 0x0000, 0x00FD, 0x00A4, 0x8002, 2] := by decide

/-- V-A21: CMP $80 vs $7F: unsigned. -/
theorem test_A21 :
    regs (step (holding (testState 0x8000 0x80 0x00 0x00 0xFD 0x24)
      [(0x8000, 0xC9), (0x8001, 0x7F)])) =
      some [0x0080, 0x0000, 0x0000, 0x00FD, 0x0025, 0x8002, 2] := by decide

/-- V-A22: CPX. -/
theorem test_A22 :
    regs (step (holding (testState 0x8000 0x00 0x05 0x00 0xFD 0x24)
      [(0x8000, 0xE0), (0x8001, 0x05)])) =
      some [0x0000, 0x0005, 0x0000, 0x00FD, 0x0027, 0x8002, 2] := by decide

/-- V-A23: CPY. -/
theorem test_A23 :
    regs (step (holding (testState 0x8000 0x00 0x00 0x00 0xFD 0x25)
      [(0x8000, 0xC0), (0x8001, 0x01)])) =
      some [0x0000, 0x0000, 0x0000, 0x00FD, 0x00A4, 0x8002, 2] := by decide

/-- V-A24: BIT zp. -/
theorem test_A24 :
    regs (step (holding (testState 0x8000 0x01 0x00 0x00 0xFD 0x24)
      [(0x8000, 0x24), (0x8001, 0x10), (0x0010, 0xC0)])) =
      some [0x0001, 0x0000, 0x0000, 0x00FD, 0x00E6, 0x8002, 3] := by decide

/-- V-A25: BIT nonzero, clears V N. -/
theorem test_A25 :
    regs (step (holding (testState 0x8000 0x3F 0x00 0x00 0xFD 0xE4)
      [(0x8000, 0x24), (0x8001, 0x10), (0x0010, 0x21)])) =
      some [0x003F, 0x0000, 0x0000, 0x00FD, 0x0024, 0x8002, 3] := by decide

/-- V-A26: INC wraps to 0. -/
theorem test_A26 :
    let r := step (holding (testState 0x8000 0x00 0x00 0x00 0xFD 0x24)
      [(0x8000, 0xE6), (0x8001, 0x10), (0x0010, 0xFF)])
    regs r = some [0x0000, 0x0000, 0x0000, 0x00FD, 0x0026, 0x8002, 5] ∧
      bytesAt r [0x0010] = some [0x00] := by decide

/-- V-A32: INC abx. -/
theorem test_A32 :
    let r := step (holding (testState 0x8000 0x00 0x01 0x00 0xFD 0x24)
      [(0x8000, 0xFE), (0x8001, 0xFF), (0x8002, 0x02), (0x0300, 0x7F)])
    regs r = some [0x0000, 0x0001, 0x0000, 0x00FD, 0x00A4, 0x8003, 7] ∧
      bytesAt r [0x0300] = some [0x80] := by decide

/-- V-A27: DEC wraps to $FF. -/
theorem test_A27 :
    let r := step (holding (testState 0x8000 0x00 0x00 0x00 0xFD 0x24)
      [(0x8000, 0xC6), (0x8001, 0x10), (0x0010, 0x00)])
    regs r = some [0x0000, 0x0000, 0x0000, 0x00FD, 0x00A4, 0x8002, 5] ∧
      bytesAt r [0x0010] = some [0xFF] := by decide

/-- V-A28: INX wrap. -/
theorem test_A28 :
    regs (step (holding (testState 0x8000 0x00 0xFF 0x00 0xFD 0x24)
      [(0x8000, 0xE8)])) =
      some [0x0000, 0x0000, 0x0000, 0x00FD, 0x0026, 0x8001, 2] := by decide

/-- V-A29: DEY to $7F. -/
theorem test_A29 :
    regs (step (holding (testState 0x8000 0x00 0x00 0x80 0xFD 0xA4)
      [(0x8000, 0x88)])) =
      some [0x0000, 0x0000, 0x007F, 0x00FD, 0x0024, 0x8001, 2] := by decide

/-- V-A30: INY. -/
theorem test_A30 :
    regs (step (holding (testState 0x8000 0x00 0x00 0x7F 0xFD 0x24)
      [(0x8000, 0xC8)])) =
      some [0x0000, 0x0000, 0x0080, 0x00FD, 0x00A4, 0x8001, 2] := by decide

/-- V-A31: DEX to zero. -/
theorem test_A31 :
    regs (step (holding (testState 0x8000 0x00 0x01 0x00 0xFD 0x24)
      [(0x8000, 0xCA)])) =
      some [0x0000, 0x0000, 0x0000, 0x00FD, 0x0026, 0x8001, 2] := by decide

/-- V-H1: ASL A. -/
theorem test_H1 :
    regs (step (holding (testState 0x8000 0x81 0x00 0x00 0xFD 0x24)
      [(0x8000, 0x0A)])) =
      some [0x0002, 0x0000, 0x0000, 0x00FD, 0x0025, 0x8001, 2] := by decide

/-- V-H6: ASL zp. -/
theorem test_H6 :
    let r := step (holding (testState 0x8000 0x00 0x00 0x00 0xFD 0x25)
      [(0x8000, 0x06), (0x8001, 0x10), (0x0010, 0x40)])
    regs r = some [0x0000, 0x0000, 0x0000, 0x00FD, 0x00A4, 0x8002, 5] ∧
      bytesAt r [0x0010] = some [0x80] := by decide

/-- V-H2: LSR A. -/
theorem test_H2 :
    regs (step (holding (testState 0x8000 0x01 0x00 0x00 0xFD 0x24)
      [(0x8000, 0x4A)])) =
      some [0x0000, 0x0000, 0x0000, 0x00FD, 0x0027, 0x8001, 2] := by decide

/-- V-H7: LSR abs clears N. -/
theorem test_H7 :
    let r := step (holding (testState 0x8000 0x00 0x00 0x00 0xFD 0xA4)
      [(0x8000, 0x4E), (0x8001, 0x00), (0x8002, 0x02), (0x0200, 0xFF)])
    regs r = some [0x0000, 0x0000, 0x0000, 0x00FD, 0x0025, 0x8003, 6] ∧
      bytesAt r [0x0200] = some [0x7F] := by decide

/-- V-H3: ROL A carry in. -/
theorem test_H3 :
    regs (step (holding (testState 0x8000 0x80 0x00 0x00 0xFD 0x25)
      [(0x8000, 0x2A)])) =
      some [0x0001, 0x0000, 0x0000, 0x00FD, 0x0025, 0x8001, 2] := by decide

/-- V-H8: ROL zpx. -/
theorem test_H8 :
    let r := step (holding (testState 0x8000 0x00 0x01 0x00 0xFD 0x24)
      [(0x8000, 0x36), (0x8001, 0x10), (0x0011, 0x55)])
    regs r = some [0x0000, 0x0001, 0x0000, 0x00FD, 0x00A4, 0x8002, 6] ∧
      bytesAt r [0x0011] = some [0xAA] := by decide

/-- V-H4: ROR A carry in. -/
theorem test_H4 :
    regs (step (holding (testState 0x8000 0x01 0x00 0x00 0xFD 0x25)
      [(0x8000, 0x6A)])) =
      some [0x0080, 0x0000, 0x0000, 0x00FD, 0x00A5, 0x8001, 2] := by decide

/-- V-H9: ROR abx. -/
theorem test_H9 :
    let r := step (holding (testState 0x8000 0x00 0x02 0x00 0xFD 0x25)
      [(0x8000, 0x7E), (0x8001, 0x00), (0x8002, 0x02), (0x0202, 0x00)])
    regs r = some [0x0000, 0x0002, 0x0000, 0x00FD, 0x00A4, 0x8003, 7] ∧
      bytesAt r [0x0202] = some [0x80] := by decide

/-- V-B1: BNE not taken. -/
theorem test_B1 :
    regs (step (holding (testState 0x8000 0x00 0x00 0x00 0xFD 0x26)
      [(0x8000, 0xD0), (0x8001, 0x10)])) =
      some [0x0000, 0x0000, 0x0000, 0x00FD, 0x0026, 0x8002, 2] := by decide

/-- V-B10: BNE forward crossing page. -/
theorem test_B10 :
    regs (step (holding (testState 0x80FC 0x00 0x00 0x00 0xFD 0x24)
      [(0x80FC, 0xD0), (0x80FD, 0x02)])) =
      some [0x0000, 0x0000, 0x0000, 0x00FD, 0x0024, 0x8100, 4] := by decide

/-- V-B3: BEQ taken backward crosses page. -/
theorem test_B3 :
    regs (step (holding (testState 0x8000 0x00 0x00 0x00 0xFD 0x26)
      [(0x8000, 0xF0), (0x8001, 0xFC)])) =
      some [0x0000, 0x0000, 0x0000, 0x00FD, 0x0026, 0x7FFE, 4] := by decide

/-- V-B4: BCC to self. -/
theorem test_B4 :
    regs (step (holding (testState 0x8000 0x00 0x00 0x00 0xFD 0x24)
      [(0x8000, 0x90), (0x8001, 0xFE)])) =
      some [0x0000, 0x0000, 0x0000, 0x00FD, 0x0024, 0x8000, 3] := by decide

/-- V-B5: BCS not taken. -/
theorem test_B5 :
    regs (step (holding (testState 0x8000 0x00 0x00 0x00 0xFD 0x24)
      [(0x8000, 0xB0), (0x8001, 0x7F)])) =
      some [0x0000, 0x0000, 0x0000, 0x00FD, 0x0024, 0x8002, 2] := by decide

/-- V-B6: BMI taken +127. -/
theorem test_B6 :
    regs (step (holding (testState 0x8000 0x00 0x00 0x00 0xFD 0xA4)
      [(0x8000, 0x30), (0x8001, 0x7F)])) =
      some [0x0000, 0x0000, 0x0000, 0x00FD, 0x00A4, 0x8081, 3] := by decide

/-- V-B7: BPL taken -128 crosses page. -/
theorem test_B7 :
    regs (step (holding (testState 0x8000 0x00 0x00 0x00 0xFD 0x24)
      [(0x8000, 0x10), (0x8001, 0x80)])) =
      some [0x0000, 0x0000, 0x0000, 0x00FD, 0x0024, 0x7F82, 4] := by decide

/-- V-B8: BVS taken. -/
theorem test_B8 :
    regs (step (holding (testState 0x8000 0x00 0x00 0x00 0xFD 0x64)
      [(0x8000, 0x70), (0x8001, 0x02)])) =
      some [0x0000, 0x0000, 0x0000, 0x00FD, 0x0064, 0x8004, 3] := by decide

/-- V-B9: BVC not taken. -/
theorem test_B9 :
    regs (step (holding (testState 0x8000 0x00 0x00 0x00 0xFD 0x64)
      [(0x8000, 0x50), (0x8001, 0x02)])) =
      some [0x0000, 0x0000, 0x0000, 0x00FD, 0x0064, 0x8002, 2] := by decide

/-- V-J2: JMP ind bug. -/
theorem test_J2 :
    regs (step (holding (testState 0x8000 0x00 0x00 0x00 0xFD 0x24)
      [(0x8000, 0x6C), (0x8001, 0xFF), (0x8002, 0x10), (0x00FF, 0x34), (0x0000, 0x12), (0x0100, 0x56)])) =
      some [0x0000, 0x0000, 0x0000, 0x00FD, 0x0024, 0x1234, 5] := by decide

/-- V-J3: JMP ind normal. -/
theorem test_J3 :
    regs (step (holding (testState 0x8000 0x00 0x00 0x00 0xFD 0x24)
      [(0x8000, 0x6C), (0x8001, 0x10), (0x8002, 0x02), (0x0210, 0x78), (0x0211, 0x06)])) =
      some [0x0000, 0x0000, 0x0000, 0x00FD, 0x0024, 0x0678, 5] := by decide

/-- V-J4: JSR. -/
theorem test_J4 :
    let r := step (holding (testState 0x8000 0x00 0x00 0x00 0xFD 0x24)
      [(0x8000, 0x20), (0x8001, 0x34), (0x8002, 0x12)])
    regs r = some [0x0000, 0x0000, 0x0000, 0x00FB, 0x0024, 0x1234, 6] ∧
      bytesAt r [0x01FD, 0x01FC] = some [0x80, 0x02] := by decide

/-- V-J6: RTS with wrapped SP. -/
theorem test_J6 :
    regs (step (holding (testState 0x8000 0x00 0x00 0x00 0xFF 0x24)
      [(0x8000, 0x60), (0x0100, 0xFF), (0x0101, 0x90)])) =
      some [0x0000, 0x0000, 0x0000, 0x0001, 0x0024, 0x9100, 6] := by decide

/-- V-J7: RTS +1 carries into high byte. -/
theorem test_J7 :
    regs (step (holding (testState 0x8000 0x00 0x00 0x00 0xFD 0x24)
      [(0x8000, 0x60), (0x01FE, 0xFF), (0x01FF, 0x12)])) =
      some [0x0000, 0x0000, 0x0000, 0x00FF, 0x0024, 0x1300, 6] := by decide

/-- V-K1: PHA. -/
theorem test_K1 :
    let r := step (holding (testState 0x8000 0x7E 0x00 0x00 0xFD 0x24)
      [(0x8000, 0x48)])
    regs r = some [0x007E, 0x0000, 0x0000, 0x00FC, 0x0024, 0x8001, 3] ∧
      bytesAt r [0x01FD] = some [0x7E] := by decide

/-- V-K6: PHA at SP=00 wraps. -/
theorem test_K6 :
    let r := step (holding (testState 0x8000 0x11 0x00 0x00 0x00 0x24)
      [(0x8000, 0x48)])
    regs r = some [0x0011, 0x0000, 0x0000, 0x00FF, 0x0024, 0x8001, 3] ∧
      bytesAt r [0x0100] = some [0x11] := by decide

/-- V-K2: PHP pushes B and U. -/
theorem test_K2 :
    let r := step (holding (testState 0x8000 0x00 0x00 0x00 0xFD 0x81)
      [(0x8000, 0x08)])
    regs r = some [0x0000, 0x0000, 0x0000, 0x00FC, 0x0081, 0x8001, 3] ∧
      bytesAt r [0x01FD] = some [0xB1] := by decide

/-- V-K3: PLA sets flags. -/
theorem test_K3 :
    regs (step (holding (testState 0x8000 0x01 0x00 0x00 0xFC 0x24)
      [(0x8000, 0x68), (0x01FD, 0x00)])) =
      some [0x0000, 0x0000, 0x0000, 0x00FD, 0x0026, 0x8001, 4] := by decide

/-- V-K7: PLA at SP=FF wraps. -/
theorem test_K7 :
    regs (step (holding (testState 0x8000 0x00 0x00 0x00 0xFF 0x24)
      [(0x8000, 0x68), (0x0100, 0x80)])) =
      some [0x0080, 0x0000, 0x0000, 0x0000, 0x00A4, 0x8001, 4] := by decide

/-- V-K4: PLP drops B forces U. -/
theorem test_K4 :
    regs (step (holding (testState 0x8000 0x00 0x00 0x00 0xFC 0x24)
      [(0x8000, 0x28), (0x01FD, 0xDF)])) =
      some [0x0000, 0x0000, 0x0000, 0x00FD, 0x00EF, 0x8001, 4] := by decide

/-- V-K8: SEC. -/
theorem test_K8 :
    regs (step (holding (testState 0x8000 0x00 0x00 0x00 0xFD 0x24)
      [(0x8000, 0x38)])) =
      some [0x0000, 0x0000, 0x0000, 0x00FD, 0x0025, 0x8001, 2] := by decide

/-- V-K9: CLC. -/
theorem test_K9 :
    regs (step (holding (testState 0x8000 0x00 0x00 0x00 0xFD 0x25)
      [(0x8000, 0x18)])) =
      some [0x0000, 0x0000, 0x0000, 0x00FD, 0x0024, 0x8001, 2] := by decide

/-- V-K10: SEI. -/
theorem test_K10 :
    regs (step (holding (testState 0x8000 0x00 0x00 0x00 0xFD 0x20)
      [(0x8000, 0x78)])) =
      some [0x0000, 0x0000, 0x0000, 0x00FD, 0x0024, 0x8001, 2] := by decide

/-- V-K11: CLI. -/
theorem test_K11 :
    regs (step (holding (testState 0x8000 0x00 0x00 0x00 0xFD 0x24)
      [(0x8000, 0x58)])) =
      some [0x0000, 0x0000, 0x0000, 0x00FD, 0x0020, 0x8001, 2] := by decide

/-- V-K12: SED. -/
theorem test_K12 :
    regs (step (holding (testState 0x8000 0x00 0x00 0x00 0xFD 0x24)
      [(0x8000, 0xF8)])) =
      some [0x0000, 0x0000, 0x0000, 0x00FD, 0x002C, 0x8001, 2] := by decide

/-- V-K13: CLD. -/
theorem test_K13 :
    regs (step (holding (testState 0x8000 0x00 0x00 0x00 0xFD 0x2C)
      [(0x8000, 0xD8)])) =
      some [0x0000, 0x0000, 0x0000, 0x00FD, 0x0024, 0x8001, 2] := by decide

/-- V-K14: CLV. -/
theorem test_K14 :
    regs (step (holding (testState 0x8000 0x00 0x00 0x00 0xFD 0x64)
      [(0x8000, 0xB8)])) =
      some [0x0000, 0x0000, 0x0000, 0x00FD, 0x0024, 0x8001, 2] := by decide

/-- V-K15: NOP. -/
theorem test_K15 :
    regs (step (holding (testState 0x8000 0x00 0x00 0x00 0xFD 0x24)
      [(0x8000, 0xEA)])) =
      some [0x0000, 0x0000, 0x0000, 0x00FD, 0x0024, 0x8001, 2] := by decide

/-- V-K16: BRK. -/
theorem test_K16 :
    let r := step (holding (testState 0x8000 0x00 0x00 0x00 0xFD 0x21)
      [(0x8000, 0x00), (0x8001, 0xFF), (0xFFFE, 0x00), (0xFFFF, 0x90)])
    regs r = some [0x0000, 0x0000, 0x0000, 0x00FA, 0x0025, 0x9000, 7] ∧
      bytesAt r [0x01FD, 0x01FC, 0x01FB] = some [0x80, 0x02, 0x31] := by decide

/-- V-K17: RTI. -/
theorem test_K17 :
    regs (step (holding (testState 0x8000 0x00 0x00 0x00 0xFA 0x24)
      [(0x8000, 0x40), (0x01FB, 0xF1), (0x01FC, 0x02), (0x01FD, 0x80)])) =
      some [0x0000, 0x0000, 0x0000, 0x00FD, 0x00E1, 0x8002, 6] := by decide

/-- V-K19: unassigned $02. -/
theorem test_K19 :
    regs (step (holding (testState 0x8000 0x00 0x00 0x00 0xFD 0x24)
      [(0x8000, 0x02), (0x8001, 0xFF)])) =
      some [0x0000, 0x0000, 0x0000, 0x00FD, 0x0024, 0x8001, 2] := by decide

/-- V-K21: unassigned $1A (a NOP on real chips). -/
theorem test_K21 :
    regs (step (holding (testState 0x8000 0x00 0x00 0x00 0xFD 0x24)
      [(0x8000, 0x1A)])) =
      some [0x0000, 0x0000, 0x0000, 0x00FD, 0x0024, 0x8001, 2] := by decide

/-- R107: TAY, by hand. -/
theorem test_tay : regs (step (holding (testState 0x8000 0x80 0 0 0xFD 0x26) [(0x8000, 0xA8)])) =
    some [0x80, 0, 0x80, 0xFD, 0xA4, 0x8001, 2] := by decide

/-- R108: TXA, by hand. -/
theorem test_txa : regs (step (holding (testState 0x8000 0x80 0 0 0xFD 0xA4) [(0x8000, 0x8A)])) =
    some [0, 0, 0, 0xFD, 0x26, 0x8001, 2] := by decide

/-- R6, R88: the count is the parameter's cell, here 9 for `$EA` and the default 2 elsewhere, by hand. -/
theorem test_baseCycles_parameter :
    let s := { idle with params := { idle.params with baseCycles := idle.params.baseCycles.set 0xE (idle.params.baseCycles[0xE].set 0xA 9) } }
    regs (step (holding s [(0x8000, 0xEA)])) = some [0, 0, 0, 0xFD, 0x24, 0x8001, 9] ∧
      regs (step (holding s [(0x8000, 0xE8)])) = some [0, 1, 0, 0xFD, 0x24, 0x8001, 2] := by decide

/-- R59, R200, by hand: the opcode `$AD` read through port 7 advances `vramAddress`, ports 0 and 1 give the operand 0. -/
theorem test_fetch_from_ports :
    let s := testState 0x2007 0 0 0 0xFD 0x24
    ∃ t, cpuStep { s with ram := [(0, 0x55)], ppu := { s.ppu with vramAddress := 0x3F00, paletteRAM := [(0, 0xAD)] } } = .next t ∧
      t.a = 0x55 ∧ t.pc = 0x200A ∧ t.ppu.vramAddress = 0x3F01 ∧ t.ppu.readBuffer = 0 := ⟨_, rfl, by decide⟩

/-! ## The host's two questions (log 8) -/

theorem test_decodeTableWord : decodeTableWord 8 0xFFFF48 = some .pha ∧ decodeTableWord 24 0x20008D = some (.staAbs 0x2000) := by
  decide

/-- LDA #$42 is the first instruction after reset, at the reset `PC`. -/
theorem test_withFetchWord : regs (step (State.reset.withFetchWord 16 0x42A9)) = some [0x42, 0, 0, 0xFD, 0x24, 2, 2] := by decide

/-- From a machine with no cartridge, too. -/
theorem test_withFetchWord_powerOn : regs (step (State.powerOn.withFetchWord 8 0xE8)) = some [0, 1, 0, 0, 0, 1, 2] := by decide

/-- With `PC` in a device's page and both latches set, the instruction still runs next. -/
theorem test_withFetchWord_ports :
    regs (step (({ idle with pc := 0x1FFF, nmiPending := true, irqPending := true, p := 0x20 }).withFetchWord 24 0x123420)) =
      some [0, 0, 0, 0xFB, 0x20, 0x1234, 6] := by decide

/-! ## The router (95_test_vectors.md 2.7) -/

theorem test_M1 : (reading (writing idle [(0x0000, 0x11), (0x1FFF, 0x22)]) [0x0000, 0x0800, 0x1000, 0x1800, 0x07FF]).1 =
    [0x11, 0x11, 0x11, 0x11, 0x22] := by decide

theorem test_M2 : (writing idle [(0x3FF8, 0x81)]).ppu.control = 0x81 ∧
    (writing idle [(0x3FF8, 0x81), (0x2008, 0x05)]).ppu.control = 0x05 := by decide

theorem test_M3 : reading idle [0x4000, 0x4014, 0x4015, 0x4017, 0x4018, 0x5FFF] = ([0, 0, 0, 0x40, 0, 0], idle) := by decide

theorem test_M4 : (reading (writing idle [(0x6000, 0xAB), (0x7FFF, 0xCD)]) [0x6000, 0x7FFF]).1 = [0xAB, 0xCD] ∧
    (writing idle [(0x6000, 0xAB), (0x7FFF, 0xCD)]).cart.prgRAM = [(0, 0xAB), (0x1FFF, 0xCD)] := by decide

theorem test_M5 : (reading (writing (holding idle [(0x8000, 0xA9), (0x8001, 0x55)]) [(0x8000, 0x00)]) [0x8000, 0xC000, 0xC001]).1 =
    [0xA9, 0xA9, 0x55] := by decide

theorem test_M6 :
    let s := { idle with cart := { idle.cart with prgBanks := 2, prgROM := [(0, 0x11), (0x4000, 0x22)] } }
    (reading s [0x8000, 0xC000]).1 = [0x11, 0x22] := by decide

/-- V-M7, four of the 256 bytes: the page wraps at the end of OAM, `oamAddress` stays. -/
theorem test_M7 :
    let s := writing { idle with ppu := { idle.ppu with oamAddress := 0x10 } }
      [(0x0201, 0x01), (0x02EF, 0xEF), (0x02F0, 0xF0), (0x02FF, 0xFF), (0x4014, 0x02)]
    [0x10, 0x11, 0xFF, 0x00, 0x0F].map s.ppu.oam.read = [0x00, 0x01, 0xEF, 0xF0, 0xFF] ∧ s.ppu.oamAddress = 0x10 := by
  decide +kernel

/-- V-M8: OAM DMA from the PPU's own ports. -/
theorem test_M8 :
    let s := writing { idle with ppu := { idle.ppu with
      status := 0x80, addressLatch := true, vramAddress := 0x2000, nameTableRAM := [(0, 0x5A), (1, 0x5B)] } } [(0x4014, 0x20)]
    [0x02, 0x0A, 0x07, 0x0F].map s.ppu.oam.read = [0x80, 0x00, 0x00, 0x5A] ∧ s.ppu.status = 0 ∧ s.ppu.addressLatch = false ∧
      s.ppu.vramAddress = 0x2020 ∧ s.ppu.readBuffer = 0 := by decide +kernel

/-! ## The PPU's ports (95_test_vectors.md 2.8, V-X5, V-X6) -/

theorem test_P1 : (writing idle [(0x2006, 0xFF), (0x2006, 0xFF)]).ppu.vramAddress = 0x3FFF ∧
    (writing idle [(0x2006, 0xFF), (0x2006, 0xFF), (0x2007, 0x12)]).ppu.paletteRAM = [(0x1F, 0x12)] ∧
    (writing idle [(0x2006, 0xFF), (0x2006, 0xFF), (0x2007, 0x12)]).ppu.vramAddress = 0 := by decide

theorem test_P2 :
    let s := writing { idle with ppu := { idle.ppu with control := 0x04, paletteRAM := [(0, 0x2A)] } }
      [(0x2006, 0x3F), (0x2006, 0xF0)]
    (memRead s 0x2007).1 = 0x2A ∧ (memRead s 0x2007).2.ppu.vramAddress = 0x0010 := by decide

theorem test_P3 :
    let s := writing { idle with ppu := { idle.ppu with status := 0x80 } } [(0x2006, 0x3F)]
    (reading s [0x2002, 0x2002]).1 = [0x80, 0x00] ∧
      (writing (reading s [0x2002, 0x2002]).2 [(0x2006, 0x3F), (0x2006, 0x00)]).ppu.vramAddress = 0x3F00 := by decide

theorem test_P4 :
    let s := writing idle [(0x2005, 0x11), (0x2006, 0x22), (0x2005, 0x33), (0x2005, 0x44)]
    s.ppu.scrollX = 0x33 ∧ s.ppu.vramAddress = 0x0022 ∧ s.ppu.scrollY = 0x44 ∧ s.ppu.addressLatch = false := by decide

theorem test_P5 :
    let s := writing idle [(0x2003, 0xFE), (0x2004, 0xA1), (0x2004, 0xA2), (0x2004, 0xA3)]
    s.ppu.oam = [(0x00, 0xA3), (0xFE, 0xA1), (0xFF, 0xA2)] ∧ s.ppu.oamAddress = 0x01 ∧
      (reading (writing s [(0x2003, 0xFF)]) [0x2004, 0x2004]).1 = [0xA2, 0xA2] := by decide

theorem test_P7 :
    let s := writing idle [(0x2006, 0x00), (0x2006, 0x10), (0x2007, 0x80), (0x2006, 0x00), (0x2006, 0x10)]
    (reading s [0x2007, 0x2007]).1 = [0x00, 0x80] ∧ (reading s [0x2007, 0x2007]).2.ppu.vramAddress = 0x0012 := by decide

theorem test_P8 :
    let rom := { idle with cart := { idle.cart with hasCharacterRAM := false, chr := [(0x10, 0x3C)] } }
    let s := writing rom [(0x2006, 0x00), (0x2006, 0x10), (0x2007, 0x80), (0x2006, 0x00), (0x2006, 0x10)]
    (reading s [0x2007, 0x2007]).1 = [0x00, 0x3C] := by decide

theorem test_P9 : reading { idle with ppu := { idle.ppu with control := 0xFF, mask := 0xFF, scrollX := 0xFF } }
      [0x2000, 0x2001, 0x2003, 0x2005, 0x2006] =
    ([0, 0, 0, 0, 0], { idle with ppu := { idle.ppu with control := 0xFF, mask := 0xFF, scrollX := 0xFF } }) := by decide

theorem test_P10 :
    let s := writing { idle with ppu := { idle.ppu with nameTableRAM := [(0, 0x77)], paletteRAM := [(0, 0x2A)] } }
      [(0x2006, 0x20), (0x2006, 0x00)]
    let t := writing (memRead s 0x2007).2 [(0x2006, 0x3F), (0x2006, 0x00)]
    (memRead t 0x2007).1 = 0x2A ∧ (memRead t 0x2007).2.ppu.readBuffer = 0x77 := by decide

/-- V-X5: the physical indices of eight video addresses. -/
theorem test_X5 :
    [0x2000, 0x2400, 0x2800, 0x2C00, 0x23FF, 0x2FFF, 0x3000, 0x3EFF].map (ntIndex .horizontal) =
      [0x000, 0x000, 0x400, 0x400, 0x3FF, 0x7FF, 0x000, 0x6FF] ∧
    [0x2000, 0x2400, 0x2800, 0x2C00, 0x23FF, 0x2FFF, 0x3000, 0x3EFF].map (ntIndex .vertical) =
      [0x000, 0x400, 0x000, 0x400, 0x3FF, 0x7FF, 0x000, 0x6FF] := by decide

/-- V-X6: the palette indices of eleven video addresses. -/
theorem test_X6 :
    [0x3F00, 0x3F04, 0x3F10, 0x3F11, 0x3F14, 0x3F18, 0x3F1C, 0x3F1F, 0x3F20, 0x3F30, 0x3FFF].map palIndex =
      [0, 4, 0, 17, 4, 8, 12, 31, 0, 0, 31] := by decide

/-! ## The joypad (95_test_vectors.md 2.9, V-X4) -/

theorem test_X4 : (reading (writing { idle with joypad := { idle.joypad with buttonMask := 0x95 } } [(0x4016, 1), (0x4016, 0)])
      (List.replicate 10 0x4016)).1 = [0x41, 0x40, 0x41, 0x40, 0x41, 0x40, 0x40, 0x41, 0x41, 0x41] := by decide

theorem test_Y2 :
    let s := writing { idle with joypad := { idle.joypad with buttonMask := 0x02 } } [(0x4016, 1)]
    (reading s [0x4016, 0x4016, 0x4016]).1 = [0x40, 0x40, 0x40] ∧ (memRead (setButton 0 true s) 0x4016).1 = 0x41 := by decide

theorem test_Y3 :
    let s := (reading (writing idle [(0x4016, 1), (0x4016, 0)]) [0x4016, 0x4016, 0x4016]).2
    (writing s [(0x4016, 0x00)]).joypad.shiftIndex = 3 ∧ (writing s [(0x4016, 0xFE)]).joypad.shiftIndex = 3 ∧
      (writing s [(0x4016, 0x03)]).joypad.shiftIndex = 0 ∧ (writing s [(0x4017, 0xFF)]).joypad.shiftIndex = 3 := by decide

/-! ## Interrupts and the frame (95_test_vectors.md 2.10; R281) -/

theorem test_I1 :
    let r := cpuStep { holding (testState 0x8123 0 0 0 0xFD 0x21) [(0xFFFA, 0x00), (0xFFFB, 0x90)] with nmiPending := true }
    regs r = some [0, 0, 0, 0xFA, 0x25, 0x9000, 7] ∧ bytesAt r [0x01FD, 0x01FC, 0x01FB] = some [0x81, 0x23, 0x21] := by decide

theorem test_I2 : regs (cpuStep { holding idle [(0x8000, 0xEA)] with irqPending := true }) =
    some [0, 0, 0, 0xFD, 0x24, 0x8001, 2] := by decide

/-- V-I4, first step: the NMI is serviced and the IRQ stays pending. -/
theorem test_I4 :
    let s := { holding (testState 0x8000 0 0 0 0xFD 0x20) [(0xFFFA, 0x00), (0xFFFB, 0x90)] with
      nmiPending := true, irqPending := true }
    regs (cpuStep s) = some [0, 0, 0, 0xFA, 0x24, 0x9000, 7] ∧
      (match cpuStep s with | .next t => t.irqPending | _ => false) = true := by decide

/-- V-I5: the status byte of BRK against that of an NMI or IRQ. -/
theorem test_I5 : softwareStatus 0x21 = 0x31 ∧ interruptStatus 0x21 = 0x21 := by decide

/-- R281: a step inside the frame's budget leaves the frame running; VBlank is clear. -/
theorem test_frame_runs :
    (match step { holding idle [(0x8000, 0xEA)] with ppu := { idle.ppu with status := 0x80 } } with
      | .next t => (t.ppu.status, t.seq)
      | _ => (0xFF, .idle)) = (0x00, { running := true, acc := 2 }) := by decide

/-! ## The loader (95_test_vectors.md 2.11, V-X7) -/

theorem test_X7 :
    (loadRom [0x4E, 0x45, 0x53, 0x1A, 1, 1, 0x40, 0, 0, 0, 0, 0, 0, 0, 0, 0] idle).1 = .failed .unsupportedMapper ∧
    (loadRom [0x4E, 0x45, 0x53, 0x1A, 1, 0, 0, 0, 0, 0, 0, 0, 0, 0, 0] idle).1 = .failed .invalidHeader ∧
    (loadRom [] idle).1 = .failed .invalidHeader := by decide

theorem test_C1_C4 :
    (loadRom ([0x4E, 0x45, 0x53, 0x1B, 1, 0, 0, 0] ++ List.replicate 8 0) idle).1 = .failed .invalidHeader ∧
    (loadRom ([0x4E, 0x45, 0x53, 0x1A, 1, 0, 0, 0x10] ++ List.replicate 8 0) idle).1 = .failed .unsupportedMapper ∧
    (loadRom ([0x4E, 0x45, 0x53, 0x1A, 0, 0, 0, 0] ++ List.replicate 8 0) idle).1 = .failed .invalidHeader ∧
    (loadRom ([0x4E, 0x45, 0x53, 0x1A, 1, 1, 0, 0] ++ List.replicate 50 0) idle).1 = .failed .truncatedFile := by decide

/-- V-C5, V-C6, V-C8: the mirroring bits; V-C7: the trainer. -/
theorem test_C5_C8 :
    imageMirroring [0x4E, 0x45, 0x53, 0x1A, 1, 0, 0x01, 0] = .horizontal ∧
    imageMirroring [0x4E, 0x45, 0x53, 0x1A, 1, 0, 0x09, 0] = .fourScreen ∧
    imageMirroring [0x4E, 0x45, 0x53, 0x1A, 1, 0, 0x02, 0x0F] = .vertical ∧
    imageMapper [0x4E, 0x45, 0x53, 0x1A, 1, 0, 0x02, 0x0F] = 0 ∧
    imageOffset [0x4E, 0x45, 0x53, 0x1A, 1, 0, 0x04, 0] = 528 := by decide

/-! ## The renderer, single pixels (95_test_vectors.md 2.12) -/

/-- All sprites at `Y = F0`. -/
def parked : Memory := (List.range 64).map fun i => (4 * i, 0xF0)

/-- Set-up B. -/
def setupB : State := { idle with
  cart := { idle.cart with chr := [(0x10, 0x80), (0x18, 0x80)] }
  ppu := { idle.ppu with
    nameTableRAM := [(0x022, 0x01), (0x3C0, 0x0C)], paletteRAM := [(0x00, 0x0F), (0x0F, 0x21)], oam := parked } }

theorem test_R1 : renderedByte setupB 16 8 = 0x21 ∧ renderedByte setupB 17 8 = 0x0F ∧ renderedByte setupB 16 9 = 0x0F := by
  decide

/-- V-R4: the scrolled picture re-enters from page 1, which mirrors page 0. -/
theorem test_R4 : renderedByte { setupB with ppu := { setupB.ppu with scrollX := 0x18 } } 248 8 = 0x21 := by decide

/-- V-R8: VERTICAL, page 2 aliases page 0; V-R6: HORIZONTAL, page 2 is the other page. -/
theorem test_R6_R8 :
    renderedByte { setupB with ppu := { setupB.ppu with control := 0x02 } } 16 8 = 0x0F ∧
    renderedByte { setupB with ppu := { setupB.ppu with control := 0x02 }
                               cart := { setupB.cart with mirroring := .vertical } } 16 8 = 0x21 := by decide

/-- Set-up S with the bytes of sprites 0 and 1. -/
def setupS (sprite0 sprite1 : List Byte) : State := { idle with
  cart := { idle.cart with chr := [(0x20, 0xFF), (0x27, 0x0F), (0x2F, 0x0F)] }
  ppu := { idle.ppu with
    paletteRAM := [(0x00, 0x0F), (0x11, 0x16), (0x13, 0x30), (0x15, 0x27), (0x17, 0x31)]
    oam := Memory.ofBytes (sprite0 ++ sprite1) 0 ++ parked.drop 2 } }

theorem test_R20 :
    [(32, 32), (39, 32), (40, 32), (43, 32), (44, 32), (35, 39), (36, 39), (40, 39), (43, 39)].map
      (fun q => renderedByte (setupS [0x1F, 2, 0, 0x20] [0x1F, 2, 1, 0x24]) q.1 q.2) =
    [0x16, 0x16, 0x27, 0x27, 0x0F, 0x0F, 0x30, 0x31, 0x31] := by decide

/-- V-R21: a sprite behind the background is not drawn and hides nothing. -/
theorem test_R21 : renderedByte (setupS [0x1F, 2, 0x20, 0x20] [0x1F, 2, 1, 0x24]) 36 32 = 0x27 := by decide

/-- V-R24: both flips; V-R25: the right edge clips. -/
theorem test_R24_R25 :
    renderedByte (setupS [0x1F, 2, 0xC0, 0x20] [0xF0, 0, 0, 0]) 35 32 = 0x30 ∧
    renderedByte (setupS [0x1F, 2, 0xC0, 0x20] [0xF0, 0, 0, 0]) 36 32 = 0x0F ∧
    renderedByte (setupS [0x1F, 2, 0x00, 0xFC] [0xF0, 0, 0, 0]) 255 32 = 0x16 ∧
    renderedByte (setupS [0x1F, 2, 0x00, 0xFC] [0xF0, 0, 0, 0]) 0 39 = 0x0F := by decide

/-- Set-up T: 8x16 sprites. -/
def setupT (control : Byte) (sprite0 : List Byte) : State := { idle with
  cart := { idle.cart with chr := [(0x30, 0xFF), (0x1020, 0x80), (0x1037, 0x01)] }
  ppu := { idle.ppu with
    control := control, paletteRAM := [(0x11, 0x16)], oam := Memory.ofBytes sprite0 0 ++ parked.drop 1 } }

theorem test_R31_R33 :
    renderedByte (setupT 0x20 [0x3F, 3, 0, 0x40]) 64 64 = 0x16 ∧ renderedByte (setupT 0x20 [0x3F, 3, 0, 0x40]) 71 79 = 0x16 ∧
    renderedByte (setupT 0x20 [0x3F, 3, 0x80, 0x40]) 71 64 = 0x16 ∧ renderedByte (setupT 0x20 [0x3F, 2, 0, 0x40]) 71 72 = 0x16 ∧
    renderedByte (setupT 0x20 [0x3F, 2, 0, 0x40]) 71 71 = 0x00 := by decide

/-! ## Witnesses: for each obligation with hypotheses, data that meets them, one theorem per obligation, clause by clause -/

/-- A state in the middle of a frame, with bytes in several memories. -/
def midFrame : State := { idle with
  ram := [(0x1FD, 0x81)], seq := { running := true, acc := 100 }
  ppu := { idle.ppu with nameTableRAM := [(0x7FF, 1)], paletteRAM := [(0x1F, 0x12)], oam := [(0xFF, 9)], vramAddress := 0x3F00 } }

theorem midFrame_inv : midFrame.Inv := by constructor <;> decide

/-- A state between frames, VBlank set and an NMI requested. -/
def betweenFrames : State := { idle with nmiPending := true, ppu := { idle.ppu with status := 0x80, control := 0x80 } }

theorem betweenFrames_inv : betweenFrames.Inv := by constructor <;> decide

theorem witness_DecodedBytesEncodeBack : decode [0xA9, 0x42, 0x60] = .ok (.ldaImm 0x42, [0x60]) := by decide

theorem witness_EncodingLines : HasLine .brk 7 ∧ ((0x00 : Byte), ModeKey.imp, 7) ∈ encodings .brk := by decide

/-- Every clause: an unassigned opcode, first in program memory, with no interrupt to service. -/
theorem witness_UnassignedOpcodes :
    let s := holding idle [(0x8000, 0xFF)]
    (0xFF : Byte) ∈ unassignedOpcodes ∧ s.nmiPending = false ∧ (s.irqPending = false ∨ s.flag .I = true) ∧ (memRead s s.pc).1 = 0xFF := by decide

/-- JMP ($10FF) in program ROM, a frame starting. -/
theorem witness_StepRunsDecodedInstruction :
    let s := holding idle [(0x8000, 0x6C), (0x8001, 0xFF), (0x8002, 0x10)]
    s.cartridgeAttached = true ∧ s.nmiPending = false ∧ (s.irqPending = false ∨ s.flag .I = true) ∧
      decode (fetchInstr (startFrame s)).1 = .ok (.jmpInd 0x10FF, []) ∧ (Instr.jmpInd 0x10FF).wellFormed = true ∧
      ∃ t, exec (.jmpInd 0x10FF) (fetchInstr (startFrame s)).2 = .next t :=
  ⟨by decide, by decide, by decide, by decide, by decide, _, rfl⟩

/-- Across the end of the address space: the last byte of program ROM and the first two of work RAM. -/
theorem witness_FetchFromMemory :
    let s := holding (testState 0xFFFF 0 0 0 0xFD 0x24) [(0xFFFF, 0x8D), (0x0000, 0x34), (0x0001, 0x12)]
    (∀ k < (Instr.staAbs 0x1234).length, isMemory (s.pc + BitVec.ofNat 16 k) = true ∧
      (memRead s (s.pc + BitVec.ofNat 16 k)).1 = (encode (.staAbs 0x1234)).getD k 0) ∧
    s.nmiPending = false ∧ (s.irqPending = false ∨ s.flag .I = true) := by decide

/-- A branch, an unassigned opcode, another instruction; the default counts. -/
theorem witness_EveryInstructionCompletes : (Instr.bne 0x12).mode.key = .rel ∧ Instr.unassigned1A.mnemonic = .unassigned ∧
    Instr.nop.mode.key ≠ .rel ∧ Instr.nop.mnemonic ≠ .unassigned ∧ idle.params.baseCycles = defaultBaseCycles := by decide

/-- No cartridge; the default counts, which are 2 to 7. -/
theorem witness_EveryStepCompletes : State.powerOn.cartridgeAttached = false ∧
    ∀ op : Byte, 2 ≤ baseCount idle.params op ∧ baseCount idle.params op ≤ 7 := by decide +kernel

theorem witness_LoadInstructions : (Instr.ldaIzy 0x12).mnemonic = .lda ∧ (Instr.ldxZpy 0x12).mnemonic = .ldx ∧
    (Instr.ldyAbx 0x1234).mnemonic = .ldy := by decide

theorem witness_StoreInstructions : (Instr.staIzx 0x12).mnemonic = .sta ∧ (Instr.stxZpy 0x12).mnemonic = .stx ∧
    (Instr.styAbs 0x1234).mnemonic = .sty := by decide

theorem witness_AdcAndSbc : (Instr.adcAbx 0x1234).mnemonic = .adc ∧ (Instr.sbcImm 0x12).mnemonic = .sbc := by decide

/-- V-S8: carry out and carry in both set, and both clear. -/
theorem witness_AdcThenSbc :
    let s1 := testState 0x8000 0xF0 0 0 0xFD 0x25
    let s2 := testState 0x8000 0x20 0 0 0xFD 0x24
    (∃ t, exec (.adcImm 0x20) s1 = .next t ∧ t.flag .C = true ∧ s1.flag .C = true) ∧
    (∃ t, exec (.adcImm 0x10) s2 = .next t ∧ t.flag .C = false ∧ s2.flag .C = false) :=
  ⟨⟨_, rfl, by decide, by decide⟩, ⟨_, rfl, by decide, by decide⟩⟩

theorem witness_LogicInstructions : (Instr.andZp 0x12).mnemonic ∈ [Mnemonic.and, .ora, .eor] ∧ (Instr.andZp 0x12).mnemonic = .and ∧
    (Instr.oraZp 0x12).mnemonic = .ora ∧ (Instr.eorZp 0x12).mnemonic = .eor := by decide

theorem witness_CompareInstructions :
    ((Instr.cmpImm 0x12).mnemonic, idle.a) ∈ [(Mnemonic.cmp, idle.a), (.cpx, idle.x), (.cpy, idle.y)] ∧
    ((Instr.cpyAbs 0x1234).mnemonic, idle.y) ∈ [(Mnemonic.cmp, idle.a), (.cpx, idle.x), (.cpy, idle.y)] := by decide

theorem witness_BitTest : (Instr.bitAbs 0x1234).mnemonic = .bit := by decide

theorem witness_IncDecMemory : ((Instr.incAbx 0x1234).mnemonic, 1) ∈ [(Mnemonic.inc, 1), (.dec, 255)] ∧
    ((Instr.decZp 0x12).mnemonic, 255) ∈ [(Mnemonic.inc, 1), (.dec, 255)] := by decide

theorem witness_ShiftInstructions : Instr.rorAcc.mnemonic ∈ shiftMnemonics ∧ Instr.rorAcc.mode = .acc ∧
    (Instr.aslAbx 0x1234).mnemonic ∈ shiftMnemonics ∧ (Instr.aslAbx 0x1234).mode ≠ .acc := by decide

/-- Not taken; taken inside the page; taken across a page boundary (V-B11, V-B12). -/
theorem witness_BranchInstructions :
    let s := testState 0x80FF 0 0 0 0xFD 0x24
    let s' := testState 0x80FF 0 0 0 0xFD 0x26
    ((Instr.bne 0x01).mnemonic, Flag.Z, false) ∈ branchConditions ∧ s'.flag .Z ≠ false ∧ s.flag .Z = false ∧
      (BitVec.ofInt 16 ((s.pc.toNat : Int) + (0x00 : Byte).toInt)).toNat / 256 = s.pc.toNat / 256 ∧
      (BitVec.ofInt 16 ((s.pc.toNat : Int) + (0x01 : Byte).toInt)).toNat / 256 ≠ s.pc.toNat / 256 := by decide

theorem witness_FlagInstructions : (Instr.clv, Flag.V, false) ∈ [(Instr.clc, Flag.C, false), (.sec, .C, true), (.cli, .I, false),
    (.sei, .I, true), (.cld, .D, false), (.sed, .D, true), (.clv, .V, false)] := by decide

/-- NMI; IRQ unmasked; IRQ masked. -/
theorem witness_InterruptService :
    let s := { idle with irqPending := true }
    betweenFrames.nmiPending = true ∧ ({ s with p := 0x20 } : State).nmiPending = false ∧
      ({ s with p := 0x20 } : State).irqPending = true ∧ ({ s with p := 0x20 } : State).flag .I = false ∧
      s.nmiPending = false ∧ (s.irqPending = false ∨ s.flag .I = true) := by decide

theorem witness_ExecLeavesTheRest : State.powerOn.cart.hasCharacterRAM = false := by decide

theorem witness_RegisterAndFlagWriters : Instr.nop.mnemonic ∉ accumulatorWriters ∧ Instr.nop.mode ≠ .acc ∧
    Instr.nop.mnemonic ∉ xWriters ∧ Instr.nop.mnemonic ∉ yWriters ∧ Instr.nop.mnemonic ∉ spWriters ∧
    Instr.nop.mnemonic ∉ pcWriters ∧ Instr.nop.mnemonic ∉ flagWriters .Z := by decide

/-- A store to `$0005`: bytes that are not it, and addresses that are no port. -/
theorem witness_InstructionsStoreOnlyThere :
    storedAt (.staAbs 0x0005) idle = [0x0005] ∧ isMemory 0x0006 = true ∧ ¬ SameCell 0x0005 0x0006 ∧ ¬ IsPort 7 0x0005 ∧
      ¬ IsPort 4 0x0005 ∧ (0x0005 : Word) ≠ 0x4014 := by decide

theorem witness_UnusedFlagsAreInert : Flag.D ∈ [Flag.D, .B, .U] ∧
    (Instr.adcImm 0x09).mnemonic ∉ [Mnemonic.php, .brk, .plp, .rti, .sed, .cld] := by decide

/-- The first and the last address of every row of the router; no address is in two rows. -/
theorem witness_RouterReads :
    (0x1FFF : Word).toNat ≤ 0x1FFF ∧ 0x2000 ≤ (0x2000 : Word).toNat ∧ (0x3FFF : Word).toNat ≤ 0x3FFF ∧
    0x4000 ≤ (0x4000 : Word).toNat ∧ (0x4015 : Word).toNat ≤ 0x4015 ∧ (0x4016 : Word).toNat = 0x4016 ∧
    (0x4017 : Word).toNat = 0x4017 ∧ 0x4018 ≤ (0x4018 : Word).toNat ∧ (0x5FFF : Word).toNat ≤ 0x5FFF ∧
    0x6000 ≤ (0x6000 : Word).toNat ∧ (0x7FFF : Word).toNat ≤ 0x7FFF ∧ 0x8000 ≤ (0x8000 : Word).toNat := by decide

theorem witness_ReadSideEffects : ¬ IsPort 2 0x2006 ∧ ¬ IsPort 7 0x2006 ∧ (0x2006 : Word) ≠ 0x4016 := by decide

theorem witness_RouterWrites :
    0x4000 ≤ (0x4000 : Word).toNat ∧ (0x4013 : Word).toNat ≤ 0x4013 ∧ (0x4014 : Word).toNat = 0x4014 ∧
    (0x4015 : Word).toNat = 0x4015 ∧ (0x4016 : Word).toNat = 0x4016 ∧ 0x4017 ≤ (0x4017 : Word).toNat ∧
    (0x5FFF : Word).toNat ≤ 0x5FFF ∧ 0x6000 ≤ (0x6000 : Word).toNat ∧ 0x8000 ≤ (0xFFFF : Word).toNat := by decide

/-- A mirror of a RAM byte; program RAM; program ROM; another cell. -/
theorem witness_ReadAfterWrite :
    (isMemory 0x1800 = true ∧ SameCell 0x0000 0x1800 ∧ (0x0000 : Word).toNat < 0x8000) ∧
    (isMemory 0x7FFF = true ∧ SameCell 0x7FFF 0x7FFF ∧ (0x7FFF : Word).toNat < 0x8000) ∧
    (isMemory 0x8000 = true ∧ SameCell 0x8000 0x8000 ∧ 0x8000 ≤ (0x8000 : Word).toNat) ∧
    (isMemory 0xC000 = true ∧ ¬ SameCell 0x8000 0xC000) := by decide

theorem witness_OamDmaCopiesPage :
    ((0x1F : Byte).toNat < 0x20 ∨ 0x41 ≤ (0x1F : Byte).toNat) ∧ ((0x41 : Byte).toNat < 0x20 ∨ 0x41 ≤ (0x41 : Byte).toNat) ∧
    0x20 ≤ (0x20 : Byte).toNat ∧ (0x20 : Byte).toNat < 0x40 ∧ 0x20 ≤ (0x3F : Byte).toNat ∧ (0x3F : Byte).toNat < 0x40 ∧
    (0x40 : Byte).toNat = 0x40 := by decide

theorem witness_PpuPortWrites : idle.ppu.addressLatch = false ∧ (writing idle [(0x2005, 1)]).ppu.addressLatch = true := by decide

theorem witness_PpuPortReads : 0x3F00 ≤ midFrame.ppu.vramAddress.toNat ∧ idle.ppu.vramAddress.toNat < 0x3F00 ∧
    6 ∈ [0, 1, 3, 5, 6] := by decide

/-- Every row at its ends. -/
theorem witness_VideoReadAfterWrite_rows :
    ((0x1FFF : VideoAddr).toNat < 0x2000 ∧ idle.cart.hasCharacterRAM = true ∧ State.powerOn.cart.hasCharacterRAM = false) ∧
    (0x2000 ≤ (0x2000 : VideoAddr).toNat ∧ 0x2000 ≤ (0x3EFF : VideoAddr).toNat ∧ (0x3EFF : VideoAddr).toNat < 0x3F00) ∧
    0x3F00 ≤ (0x3F00 : VideoAddr).toNat ∧ 0x3000 ≤ 0x3EFF ∧ 0x3EFF < 0x3F00 := by decide

/-- The same byte in each of the three ways and writable; another byte; character ROM. -/
theorem witness_VideoReadAfterWrite :
    (SameVideoCell .horizontal 0x0010 0x0010 ∧ VideoWritable idle 0x0010) ∧
    (SameVideoCell .horizontal 0x2000 0x2400 ∧ VideoWritable idle 0x2000) ∧
    (SameVideoCell .horizontal 0x3F10 0x3F00 ∧ VideoWritable State.powerOn 0x3F10) ∧
    (¬ SameVideoCell .horizontal 0x2000 0x2800 ∨ ¬ VideoWritable idle 0x2000) ∧
    (¬ SameVideoCell .horizontal 0x0010 0x0010 ∨ ¬ VideoWritable State.powerOn 0x0010) := by decide

theorem witness_NametableMirroring : 0x2000 ≤ 0x2FFF ∧ 0x2FFF < 0x3000 ∧ 0x3FF < 0x400 := by decide

theorem witness_PaletteAliases : 0x3F00 ≤ 0x3F1C ∧ 0x3F1C ≤ 0x3FFF ∧ (0x3F1C &&& 0x1F) &&& 0x13 = 0x10 ∧
    (0x3FFF &&& 0x1F) &&& 0x13 ≠ 0x10 ∧ 0x3F00 ≤ (0x3F1C : VideoAddr).toNat := by decide

/-- A strobe write of each kind; a read that advances, one that is strobed, one past the eighth. -/
theorem witness_JoypadAccess :
    (0xFF : Byte).toNat % 2 = 1 ∧ (0xFE : Byte).toNat % 2 = 0 ∧
    ({ idle.joypad with shiftIndex := 7 } : Joypad).strobe = false ∧ ({ idle.joypad with shiftIndex := 7 } : Joypad).shiftIndex.val < 8 ∧
    (({ idle.joypad with shiftIndex := 8 } : Joypad).strobe = true ∨ ({ idle.joypad with shiftIndex := 8 } : Joypad).shiftIndex.val = 8) := by
  decide

/-- A bit that is not the button's own. -/
theorem witness_ButtonEvents : 7 < 8 ∧ 7 ≠ (0 : Fin 8).val := by decide

theorem witness_RenderWritesFrame : 255 < 256 ∧ 239 < 240 := by decide

/-- The gate absent, open and closed. -/
theorem witness_BackgroundPixel :
    (idle.params.maskGatesRender = false ∨ idle.ppu.mask.getLsbD 3 = true) ∧
    ({ idle.params with maskGatesRender := true } : Params).maskGatesRender = true ∧ idle.ppu.mask.getLsbD 3 = false := by decide

/-- Row 7, column 7 of an 8x8 sprite, with a colour; row 15 of an 8x16 sprite. -/
theorem witness_SpritePixelColour :
    7 < spriteHeight (setupS [0x1F, 2, 0, 0x20] [0x1F, 2, 1, 0x24]) ∧ 15 < spriteHeight (setupT 0x20 [0x3F, 3, 0, 0x40]) ∧ 7 < 8 ∧
    spriteIndex (setupS [0x1F, 2, 0, 0x20] [0x1F, 2, 1, 0x24]) 0 7 7 ≠ 0 ∧
    spriteIndex (setupS [0x1F, 2, 0, 0x20] [0x1F, 2, 1, 0x24]) 0 7 0 = 0 := by decide

/-- No sprite at a pixel; sprite 0 at one; sprite 1 with no lower one. -/
theorem witness_LowestSpriteWins :
    let s := setupS [0x1F, 2, 0, 0x20] [0x1F, 2, 1, 0x24]
    (s.params.maskGatesRender = false ∨ s.ppu.mask.getLsbD 4 = true) ∧ (∀ i < 64, spritePixel s i 0 0 = none) ∧
      spritePixel s 0 36 32 = some 0x16 ∧ spritePixel s 1 43 32 = some 0x27 ∧ (∀ j < 1, spritePixel s j 43 32 = none) ∧
      ({ s.params with maskGatesRender := true } : Params).maskGatesRender = true ∧ s.ppu.mask.getLsbD 4 = false := by decide

/-- A state with sprite writes, among them one under another; the gate closed. -/
theorem witness_SpritePassRefinesLoops :
    let s := setupS [0x1F, 2, 0, 0x20] [0x1F, 2, 1, 0x24]
    (s.params.maskGatesRender = false ∨ s.ppu.mask.getLsbD 4 = true) ∧
      spritePixel s 0 36 32 = some 0x16 ∧ spritePixel s 1 36 32 = some 0x27 ∧
      ({ s.params with maskGatesRender := true } : Params).maskGatesRender = true ∧ s.ppu.mask.getLsbD 4 = false ∧ 255 < 256 ∧ 239 < 240 := by decide

theorem witness_StepsMakeOneFrame : betweenFrames.cartridgeAttached = true ∧ betweenFrames.seq = .idle ∧
    0 < betweenFrames.params.cyclesPerFrame ∧ ∀ op : Byte, 0 < baseCount betweenFrames.params op := by decide +kernel

/-- Running and not; below the budget and at it. -/
theorem witness_FrameBoundary : midFrame.seq.running = true ∧ idle.seq.running = false ∧
    midFrame.seq.acc + midFrame.cycles < midFrame.params.cyclesPerFrame ∧
    ({ idle.params with cyclesPerFrame := 100 } : Params).cyclesPerFrame ≤ midFrame.seq.acc + midFrame.cycles := by decide

theorem witness_VBlankNeverSeen : betweenFrames.Inv ∧ midFrame.Inv ∧ IsPort 2 0x2002 ∧ IsPort 2 0x3FFA ∧ midFrame.ppu.status = 0 :=
  ⟨betweenFrames_inv, midFrame_inv, by decide, by decide, by decide⟩

/-- A short image; a wrong mapper; no program bank; too short by the whole body, with a trainer. -/
theorem witness_LoadRefusals :
    let img := fun (b4 b6 : Byte) => ([0x4E, 0x45, 0x53, 0x1A, b4, 0, b6, 0, 0, 0, 0, 0, 0, 0, 0, 0] : List Byte)
    ¬ (16 ≤ ([] : List Byte).length) ∧
    (16 ≤ (img 1 0x40).length ∧ (img 1 0x40).take 4 = [0x4E, 0x45, 0x53, 0x1A] ∧
      ((img 1 0x40).getD 7 0 &&& 0xF0#8) ||| ((img 1 0x40).getD 6 0 >>> 4) ≠ 0) ∧
    (((img 0 0).getD 7 0 &&& 0xF0#8) ||| ((img 0 0).getD 6 0 >>> 4) = 0 ∧ (img 0 0).getD 4 0 = 0) ∧
    (((img 1 4).getD 7 0 &&& 0xF0#8) ||| ((img 1 4).getD 6 0 >>> 4) = 0 ∧ (img 1 4).getD 4 0 ≠ 0 ∧
      (img 1 4).length < 528 + ((img 1 4).getD 4 0).toNat * 16384 + ((img 1 4).getD 5 0).toNat * 8192) := by decide

/-- The blank image of log 7. -/
theorem witness_LoadBuildsAndResets :
    let img := Laws.blankImage 16384
    16 ≤ img.length ∧ img.take 4 = [0x4E, 0x45, 0x53, 0x1A] ∧
      (img.getD 7 0 &&& 0xF0#8) ||| (img.getD 6 0 >>> 4) = 0 ∧ img.getD 4 0 ≠ 0 ∧
      (if (img.getD 6 0).getLsbD 2 then 528 else 16) + (img.getD 4 0).toNat * 16384 + (img.getD 5 0).toNat * 8192 ≤ img.length := by
  have h : (Laws.blankImage 16384).length = 16400 := by
    rw [Laws.blankImage, List.length_append, List.length_replicate]; rfl
  have hb : ∀ k < 16, (Laws.blankImage 16384).getD k 0 = Laws.blankHeader.getD k 0 := Laws.imageByte_blank 16384
  refine ⟨by omega, rfl, ?_, ?_, ?_⟩
  · rw [hb 7 (by decide), hb 6 (by decide)]; decide
  · rw [hb 4 (by decide)]; decide
  · rw [hb 4 (by decide), hb 5 (by decide), hb 6 (by decide), h]; decide

theorem witness_ResetState : (0x7FFF : Word).toNat < 0x8000 ∧ (0x7FFF : Word) ≠ 0x4016 ∧ (0x7FFF : Word) ≠ 0x4017 := by decide

theorem witness_StepKeepsInv : betweenFrames.Inv ∧ midFrame.Inv := ⟨betweenFrames_inv, midFrame_inv⟩

/-- Between frames and within one; with an IRQ source and without; a button between frames; an IRQ within one (log 14). -/
theorem witness_HostEventsKeepInv : betweenFrames.Inv ∧
    betweenFrames.seq.running = false ∧ midFrame.seq.running = true ∧
    ({ midFrame.params with irqSource := true } : Params).irqSource = true ∧ midFrame.params.irqSource = false ∧
    hostEvent (.button 0 true) betweenFrames = some (.nothing, setButton 0 true betweenFrames) ∧
    hostEvent .irq { midFrame with params := { midFrame.params with irqSource := true } } =
      some (.nothing, { midFrame with irqPending := true, params := { midFrame.params with irqSource := true } }) :=
  ⟨betweenFrames_inv, by decide, by decide, by decide, by decide, by decide, by decide⟩

end Sys2Proof.Tests
end

section
/-!
What no instruction changes (O30). `exec_answer` gives every instruction's next state as that of a bus access, with only the
CPU registers and the cycle count replaced; a bus access leaves the rest.
-/

namespace Sys2Proof.Proofs

open Sys2Proof.Machine Sys2Proof.Laws

/-- Of the cartridge, a bus access can change only program RAM and character memory (R28). -/
theorem onlyWriteEffects_cart {s t : State} (h : OnlyWriteEffects s t) :
    t.cart = { s.cart with prgRAM := t.cart.prgRAM, chr := t.cart.chr } := by
  obtain ⟨⟨_, _, _, _, _, rfl⟩, -⟩ := h
  rfl

/-- Settles O30: the state after an instruction is that after its bus accesses, but for registers and count. -/
theorem execLeavesTheRest : Obligations.ExecLeavesTheRest := by
  intro i s
  obtain ⟨t, hexec, hanswer⟩ := exec_answer i s
  obtain ⟨u, ⟨hu, -⟩, ht⟩ := hanswer.bus
  have ⟨_, hframe, hbuttons, hchr, _⟩ := hu
  have hcart := onlyWriteEffects_cart hu
  refine ⟨t, hexec, ?_⟩
  rw [ht]
  exact ⟨hu.eq_nmiPending, hu.eq_irqPending, hframe, hbuttons, hu.eq_cartridgeAttached, hcart, hchr, hu.eq_params, hu.eq_seq⟩

end Sys2Proof.Proofs
end

section
/-!
The invariant: it holds at reset and every step keeps it (O58, O59), and what it says of VBlank (O54). A step is
`startFrame`, one CPU step, `closeStep`; `MidStep` is what holds between the first and the last of these.
-/

namespace Sys2Proof.Proofs

open Sys2Proof.Machine Sys2Proof.Laws

theorem inv_forms {s : State} (h : s.Inv) : Forms s :=
  ⟨h.ramForm, h.nameTableForm, h.paletteForm, h.oamForm, h.prgRamForm, h.chrForm, h.prgRomForm, h.aliasedPalette⟩

/-- The invariant within a step: the sequencer's clauses left out, VBlank hidden. -/
structure MidStep (s : State) : Prop where
  forms : Forms s
  cartridge : s.cartridgeAttached = true → 0 < s.cart.prgBanks ∧ s.cart.mapperId = 0
  frame : s.ppu.frameBuffer.length = 0 ∨ s.ppu.frameBuffer.length = 61440
  vblank : s.ppu.status = 0
  status : StatusForm s.p
  budget : 0 < s.params.cyclesPerFrame
  resetStatus : flagOf s.params.resetP .B = false ∧ flagOf s.params.resetP .U = true

/-- R281, R207: VBlank is cleared where a frame starts, and hidden while one runs. -/
theorem startFrame_midStep {s : State} (h : s.Inv) : MidStep (startFrame s) := by
  cases hr : s.seq.running
  · rw [startFrame_idle hr]
    exact ⟨{ inv_forms h with }, h.cartridge, h.frame, h.statusBits, ⟨h.breakClear, h.unusedSet⟩, h.budget, h.resetStatus⟩
  · rw [startFrame_running hr]
    exact ⟨inv_forms h, h.cartridge, h.frame, h.vblankHidden hr, ⟨h.breakClear, h.unusedSet⟩, h.budget, h.resetStatus⟩

theorem MidStep.cpuFrame {s t : State} (h : MidStep s) (hf : CpuFrame s t) : MidStep t where
  forms := hf.forms h.forms
  cartridge := by rw [hf.attached, hf.prgBanks, hf.mapperId]; exact h.cartridge
  frame := by rw [hf.frameBuffer]; exact h.frame
  vblank := hf.status h.vblank
  status := hf.statusForm h.status
  budget := by rw [hf.params]; exact h.budget
  resetStatus := by rw [hf.params]; exact h.resetStatus

/-- What the sequencer makes of a state within a step, its own fields given: the invariant again. -/
theorem MidStep.inv_with {s : State} (h : MidStep s) {st : Byte} {frame : List Pixel} {nmi : Bool} {q : Sequencer}
    (hbits : st &&& 0x7F = 0) (hframe : frame.length = 0 ∨ frame.length = 61440)
    (hrun : q.running = true → q.acc < s.params.cyclesPerFrame ∧ st = 0 ∧ nmi = false)
    (hidle : q.running = false → q.acc = 0) :
    { s with ppu := { s.ppu with status := st, frameBuffer := frame }, nmiPending := nmi, seq := q : State }.Inv where
  ramForm := h.forms.ram
  nameTableForm := h.forms.nameTable
  paletteForm := h.forms.palette
  oamForm := h.forms.oam
  prgRamForm := h.forms.prgRam
  chrForm := h.forms.chr
  prgRomForm := h.forms.prgRom
  aliasedPalette := h.forms.aliased
  cartridge := h.cartridge
  frame := hframe
  statusBits := hbits
  breakClear := h.status.1
  unusedSet := h.status.2
  accBelow hr := (hrun hr).1
  accIdle := hidle
  vblankHidden hr := (hrun hr).2.1
  nmiServiced hr := (hrun hr).2.2
  budget := h.budget
  resetStatus := h.resetStatus

/-- R281: below the budget the frame goes on, with its accumulator; at the budget it ends, rendered whole, with VBlank
set. -/
theorem MidStep.inv_closeStep {s : State} (h : MidStep s) (hn : s.nmiPending = false) : (closeStep s).Inv := by
  unfold closeStep
  split
  next hacc =>
    have hstatus : s.ppu.status &&& 0x7F = 0 := by rw [h.vblank]; decide
    exact h.inv_with hstatus h.frame (fun _ => ⟨hacc, h.vblank, hn⟩) (fun hr => Bool.noConfusion hr)
  next =>
    rw [endFrame_eq]
    have hstatus : (s.ppu.status ||| 0x80) &&& 0x7F = 0 := by rw [h.vblank]; decide
    exact h.inv_with hstatus (.inr (renderFrame_length _)) (fun hr => Bool.noConfusion hr) (fun _ => rfl)

/-- Settles O59: the CPU step keeps what `startFrame` makes true, and leaves no NMI pending; `closeStep` makes the invariant
of it again. -/
theorem stepKeepsInv : Obligations.StepKeepsInv := by
  intro s h
  cases hc : s.cartridgeAttached
  · exact ⟨s, step_detached hc, h⟩
  · obtain ⟨t, hstep, hframe, -, hnmi⟩ := cpuStep_spec (startFrame s)
    exact ⟨closeStep t, step_next hc hstep, ((startFrame_midStep h).cpuFrame hframe).inv_closeStep hnmi⟩

/-- Settles O58: after reset every memory is empty, and no frame runs. -/
theorem resetMeetsInv : Obligations.ResetMeetsInv where
  ramForm := reset_forms.ram
  nameTableForm := reset_forms.nameTable
  paletteForm := reset_forms.palette
  oamForm := reset_forms.oam
  prgRamForm := reset_forms.prgRam
  chrForm := reset_forms.chr
  prgRomForm := reset_forms.prgRom
  aliasedPalette := reset_forms.aliased
  cartridge _ := by decide
  frame := .inl rfl
  statusBits := by decide
  breakClear := by decide
  unusedSet := by decide
  accBelow hr := Bool.noConfusion hr
  accIdle _ := rfl
  vblankHidden _ := rfl
  nmiServiced _ := rfl
  budget := by decide
  resetStatus := by decide

/-- A read of port 2, at every mirror, answers the status register (R44, R194). -/
theorem memRead_statusPort {s : State} {a : Word} (h : IsPort 2 a) : (memRead s a).1 = s.ppu.status := by
  obtain ⟨hlo, hhi, hport⟩ := h
  rw [memRead_at_port s hlo hhi, hport]
  rfl

/-- Settles O54: a step starts with the status at 0, and neither an instruction nor a CPU step raises it. -/
theorem vBlankNeverSeen : Obligations.VBlankNeverSeen := by
  refine ⟨fun s h => ?_, fun i s h => ?_, fun s h => ?_⟩
  · have hzero := (startFrame_midStep h).vblank
    exact ⟨hzero, fun a ha => (memRead_statusPort ha).trans hzero⟩
  · obtain ⟨t, hexec, hanswer⟩ := exec_answer i s
    exact ⟨t, hexec, hanswer.cpuFrame.status h⟩
  · obtain ⟨t, hstep, hframe, -⟩ := cpuStep_spec s
    exact ⟨t, hstep, hframe.status h⟩

end Sys2Proof.Proofs
end

section
/-!
What `renderFrame` writes (O47).
-/

namespace Sys2Proof.Proofs

open Sys2Proof.Machine Sys2Proof.Laws

/-- R236: the index of a colour is the low six bits of its palette byte. -/
theorem colourIndex_eq (c : Byte) : colourIndex c = BitVec.ofNat 6 (c.toNat &&& 0x3F) := by
  apply BitVec.eq_of_toNat_eq
  have hmask : c.toNat &&& 0x3F = c.toNat % 2 ^ 6 := Nat.and_two_pow_sub_one_eq_mod c.toNat 6
  simp [colourIndex, hmask]

/-- R26, R220: element `y*256 + x` of a rendered frame is pixel `(x, y)`. -/
theorem shownPixel_renderFrame (s : State) {x y : Nat} (hx : x < 256) (hy : y < 240) :
    shownPixel (renderFrame s) x y = colourIndex (renderedByte s x y) := by
  have hk : y * frameWidth + x < frameWidth * frameHeight := by unfold frameWidth frameHeight; omega
  have hcol : (y * frameWidth + x) % frameWidth = x := by unfold frameWidth; omega
  have hrow : (y * frameWidth + x) / frameWidth = y := by unfold frameWidth; omega
  simp only [shownPixel, renderFrame, setPpu_ppu, List.getElem?_map, List.getElem?_range hk, Option.map_some,
    Option.getD_some, hcol, hrow]

/-- Settles O47: the frame buffer is the list of the pixels' indices, row by row. -/
theorem renderWritesFrame : Obligations.RenderWritesFrame := by
  intro s
  refine ⟨by simp only [renderFrame, State.setPpu], renderFrame_length s, fun x y hx hy => ?_⟩
  have hpixel := (shownPixel_renderFrame s hx hy).trans (colourIndex_eq _)
  exact ⟨hpixel, congrArg Config.systemPalette hpixel⟩

end Sys2Proof.Proofs
end

section
/-!
The fetch, byte by byte (O7). `fetchInstr` is `fetchBytes` of as many bytes as the opcode byte says; `fetchBytes` goes
through the states `fetchedAfter`.
-/

namespace Sys2Proof.Proofs

open Sys2Proof.Machine Sys2Proof.Laws

theorem opcodeLength_pos (op : Byte) : 0 < opcodeLength op := by unfold opcodeLength Instr.length; omega

theorem fetchInstr_eq_fetchBytes (s : State) : fetchInstr s = fetchBytes (opcodeLength (memRead s s.pc).1) s := by
  have hop : (fetchByte s).1 = (memRead s s.pc).1 := rfl
  obtain ⟨n, hn⟩ := Nat.exists_eq_succ_of_ne_zero (opcodeLength_pos (memRead s s.pc).1).ne'
  simp only [fetchInstr, hop, hn, Nat.succ_eq_add_one, Nat.add_sub_cancel, fetchBytes]

/-! ## The states that the fetches leave -/

theorem fetchedAfter_pc (s : State) (j : Nat) : (fetchedAfter s j).pc = s.pc + BitVec.ofNat 16 j := by
  cases j
  · simp [fetchedAfter]
  · rfl

theorem fetchByte_fetchedAfter (s : State) (j : Nat) : fetchByte (fetchedAfter s j) =
    ((memRead (fetchedAfter s j) (s.pc + BitVec.ofNat 16 j)).1, fetchedAfter s (j + 1)) := by
  rw [fetchByte_eq, fetchedAfter_pc, BitVec.add_assoc, show (1 : Word) = BitVec.ofNat 16 1 from rfl, ← BitVec.ofNat_add]
  rfl

theorem fetchBytes_fetchedAfter (s : State) (n : Nat) : ∀ j, fetchBytes n (fetchedAfter s j) =
    ((List.range' j n).map fun k => (memRead (fetchedAfter s k) (s.pc + BitVec.ofNat 16 k)).1, fetchedAfter s (j + n)) := by
  induction n with
  | zero => exact fun _ => rfl
  | succ n ih =>
    intro j
    simp only [fetchBytes, fetchByte_fetchedAfter, ih, List.range'_succ, List.map_cons, Nat.add_assoc, Nat.add_comm 1 n]

/-! ## Decoding the fetched bytes -/

theorem decode_fetchInstr (s : State) : decode (fetchInstr s).1 = .ok (instrOfBytes (fetchInstr s).1, []) := by
  have hlen := length_fetchBytes (opcodeLength (fetchByte s).1 - 1) (fetchByte s).2
  simp only [fetchInstr, decode, instrOfBytes, hlen, Nat.lt_irrefl, if_false, List.getD_cons_zero, List.getD_cons_succ,
    List.drop_of_length_le hlen.le]

/-- An instruction's own bytes are read as that instruction. -/
theorem instrOfBytes_encode (i : Instr) : instrOfBytes (encode i) = i := by
  have hlen := mode_bytes_length i.mode
  refine decodeBytes_opcode i _ _ ?_
  simp only [encode, List.getD_cons_succ]
  rcases h : i.mode.bytes with _ | ⟨b1, _ | ⟨b2, _ | ⟨b3, l⟩⟩⟩
  · rfl
  · rfl
  · rfl
  · rw [h] at hlen; simp at hlen

theorem cpuStep_eq_exec {s : State} (hn : s.nmiPending = false) (hi : s.irqPending = false ∨ s.flag .I = true) :
    cpuStep s = exec (instrOfBytes (fetchInstr s).1) (fetchInstr s).2 := by
  have hirq : irqTaken s = false := by rcases hi with h | h <;> simp [irqTaken, h]
  simp only [cpuStep, hn, hirq, Bool.false_eq_true, if_false]

/-! ## An instruction in memory -/

/-- Where memory holds an instruction at `PC`, those bytes are fetched, and only `PC` changes. -/
theorem fetchInstr_encode {s : State} {i : Instr}
    (h : ∀ k < i.length, isMemory (s.pc + BitVec.ofNat 16 k) = true ∧
      (memRead s (s.pc + BitVec.ofNat 16 k)).1 = (encode i).getD k 0) :
    fetchInstr s = (encode i, s.setPc (s.pc + BitVec.ofNat 16 i.length)) := by
  have hlen : (encode i).length = i.length := Nat.add_comm ..
  have hop : (memRead s s.pc).1 = i.opcode := by
    have := (h 0 (by unfold Instr.length; omega)).2
    rwa [show s.pc + BitVec.ofNat 16 0 = s.pc from BitVec.add_zero _] at this
  rw [fetchInstr_eq_fetchBytes, hop, ← encode_length, hlen, fetchBytes_memory _ _ fun k hk => (h k hk).1]
  congr 1
  refine List.ext_getElem (by simp [hlen]) fun k hk hk' => ?_
  rw [List.getElem_map, List.getElem_range, (h k (hlen ▸ hk')).2, List.getD_eq_getElem _ _ hk']

/-- Settles O7: the fetch goes through the states of `fetchedAfter`, its bytes decode whole, and a CPU step with no interrupt
to service runs what they decode to. -/
theorem fetchFromMemory : Obligations.FetchFromMemory := by
  refine ⟨fun s => ?_, fun s i h => ?_⟩
  · have hfetch := (fetchInstr_eq_fetchBytes s).trans (fetchBytes_fetchedAfter s _ 0)
    rw [Nat.zero_add, ← List.range_eq_range'] at hfetch
    refine ⟨hfetch, _, decode_fetchInstr s, fun hn hi => ?_⟩
    rw [cpuStep_eq_exec hn hi, congrArg Prod.snd hfetch]
  · have hfetch := fetchInstr_encode h
    refine ⟨hfetch, fun hn hi => ?_⟩
    rw [cpuStep_eq_exec hn hi, hfetch, instrOfBytes_encode]
    rfl

end Sys2Proof.Proofs
end

section
/-!
Which instructions write which register and which flag (O31), mnemonic by mnemonic.
-/

namespace Sys2Proof.Proofs

open Sys2Proof Sys2Proof.Machine Sys2Proof.Laws

/-! ## Flags -/

theorem flagsAfter_adcStatus (p a m : Byte) : ∃ c v : Bool,
    FlagsAfter p (adcStatus p a m) ((.C, c) :: (.V, v) :: zn (adcResult a m (flagOf p .C))) := by
  refine ⟨decide (0xFF < adcSum a m (flagOf p .C)),
    decide ((~~~(a ^^^ m)) &&& (a ^^^ adcResult a m (flagOf p .C)) &&& 0x80 ≠ 0), fun f => ?_⟩
  rw [flagOf_adcStatus]
  cases f <;> rfl

theorem flagsAfter_compareStatus (p reg m : Byte) :
    FlagsAfter p (compareStatus p reg m) ((.C, decide (m.toNat ≤ reg.toNat)) :: zn (reg - m)) := by
  intro f
  rw [flagOf_compareStatus]
  cases f <;> rfl

theorem flagsAfter_bitStatus (p a m : Byte) :
    FlagsAfter p (bitStatus p a m) [(.Z, decide (a &&& m = 0)), (.V, m.getLsbD 6), (.N, m.getLsbD 7)] := by
  intro f
  rw [flagOf_bitStatus]
  cases f <;> rfl

/-- The flags whose writers `op` is not among keep what they hold. -/
def FlagsKept (op : Mnemonic) (p p' : Byte) : Prop := ∀ f, op ∉ flagWriters f → flagOf p' f = flagOf p f

theorem FlagsKept.refl {op : Mnemonic} {p : Byte} : FlagsKept op p p := fun _ _ => rfl

/-- A mnemonic may change the flags it is listed as a writer of. -/
theorem FlagsKept.of_flagsAfter {op : Mnemonic} {p p' : Byte} {changed : List (Flag × Bool)} (h : FlagsAfter p p' changed)
    (hw : ∀ c ∈ changed, op ∈ flagWriters c.1) : FlagsKept op p p' := by
  intro f hf
  have hnone : changed.lookup f = none := by
    rw [List.lookup_eq_none_iff]
    intro c hc
    have hne : f ≠ c.1 := fun e => hf (e ▸ hw c hc)
    simpa using hne
  rw [h f, hnone]
  rfl

/-- `setZN` (R15). -/
theorem flagsKept_zn {op : Mnemonic} (hZ : op ∈ flagWriters .Z) (hN : op ∈ flagWriters .N) {p v : Byte} :
    FlagsKept op p (znStatus p v) :=
  .of_flagsAfter (flagsAfter_znStatus p v) (by simp [zn, hZ, hN])

theorem flagsKept_adc {op : Mnemonic} (hop : op = .adc ∨ op = .sbc) {p a m : Byte} : FlagsKept op p (adcStatus p a m) := by
  obtain ⟨c, v, h⟩ := flagsAfter_adcStatus p a m
  exact .of_flagsAfter h (by rcases hop with rfl | rfl <;> simp [zn, flagWriters])

theorem flagsKept_compare {op : Mnemonic} (hop : op = .cmp ∨ op = .cpx ∨ op = .cpy) {p reg m : Byte} :
    FlagsKept op p (compareStatus p reg m) :=
  .of_flagsAfter (flagsAfter_compareStatus p reg m) (by rcases hop with rfl | rfl | rfl <;> simp [zn, flagWriters])

theorem flagsKept_bit {p a m : Byte} : FlagsKept .bit p (bitStatus p a m) :=
  .of_flagsAfter (flagsAfter_bitStatus p a m) (by simp [flagWriters])

theorem flagsKept_shift {op : Mnemonic} (hop : op ∈ shiftMnemonics) {p : Byte} {r : Byte × Bool} :
    FlagsKept op p (shiftStatus p r) :=
  .of_flagsAfter (flagsAfter_shiftStatus p r) (by
    simp only [shiftMnemonics, List.mem_cons, List.not_mem_nil, or_false] at hop
    rcases hop with rfl | rfl | rfl | rfl <;> simp [zn, flagWriters])

theorem flagsKept_put {op : Mnemonic} {f : Flag} (hf : op ∈ flagWriters f) {p : Byte} {v : Bool} :
    FlagsKept op p (putFlag p f v) :=
  .of_flagsAfter (flagsAfter_putFlag p f v) (by simp [hf])

/-- PLP and RTI write every flag (R16). -/
theorem flagsKept_pulled {op : Mnemonic} (hop : op = .plp ∨ op = .rti) {p p' : Byte} : FlagsKept op p p' := by
  intro f hf
  refine absurd ?_ hf
  rcases hop with rfl | rfl <;> cases f <;> decide

/-! ## Registers -/

/-- What an instruction of mnemonic `op` and mode `mode` leaves of the registers. Where the next state is written out, each
register is either visibly kept or `op` is one of its writers, which the fields' defaults find out. -/
structure RegistersKept (op : Mnemonic) (mode : Mode) (s t : State) : Prop where
  flags : FlagsKept op s.p t.p
  a : op ∉ accumulatorWriters → mode ≠ .acc → t.a = s.a := by simp [accumulatorWriters, setZN]
  x : op ∉ xWriters → t.x = s.x := by simp [xWriters, setZN]
  y : op ∉ yWriters → t.y = s.y := by simp [yWriters, setZN]
  sp : op ∉ spWriters → t.sp = s.sp := by simp [spWriters, setZN]
  pc : op ∉ pcWriters → t.pc = s.pc := by simp [pcWriters, setZN]

/-- An operation that writes the status and the count only. -/
theorem RegistersKept.of_status {op : Mnemonic} {mode : Mode} {s : State} {p : Byte} {n : Nat} (h : FlagsKept op s.p p) :
    RegistersKept op mode s { s with p := p, cycles := n } := { flags := h }

/-- The operations of `branchOn` write `PC` and the count only (R150). -/
theorem registersKept_branch {op : Mnemonic} (hop : op ∈ pcWriters) (mode : Mode) (s : State) (cond : Bool) (off : Byte) :
    ∃ t, branchOn cond off s = .next t ∧ RegistersKept op mode s t := by
  refine ⟨_, branchOn_eq s cond off, ?_⟩
  cases cond
  · exact .of_status .refl
  · exact { flags := .refl, pc := fun h => absurd hop h }

/-- The read-modify-write operations on memory write no register but the status (R84). -/
theorem registersKept_modifyMem {op : Mnemonic} {f : Byte → Byte → Byte × Byte} (mode : Mode) (m : MemMode) (n : Nat)
    (s : State) (hf : ∀ b, FlagsKept op s.p (f b s.p).2) : ∃ t, modifyMem f m n s = .next t ∧ RegistersKept op mode s t :=
  ⟨_, modifyMem_eq' .., { flags := hf _ , a := by simp, x := by simp, y := by simp, sp := by simp, pc := by simp }⟩

/-- A shift in either form: on the accumulator it writes `A`, on memory no register but the status (R10). -/
theorem registersKept_shift {i : Instr} {s : State} {op : Mnemonic} {n : Nat} {f : Byte → Bool → Byte × Bool}
    (hop : op ∈ shiftMnemonics)
    (h : (i.mode = .acc ∧ exec i s = modifyAcc (shiftWith f) n s) ∨ ∃ m, exec i s = modifyMem (shiftWith f) m n s) :
    ∃ t, exec i s = .next t ∧ RegistersKept op i.mode s t := by
  rcases h with ⟨hacc, h⟩ | ⟨m, h⟩
  · exact ⟨_, h.trans (modifyAcc_eq ..), flagsKept_shift hop, fun _ hne => absurd hacc hne, fun _ => rfl, fun _ => rfl,
      fun _ => rfl, fun _ => rfl⟩
  · rw [h]
    exact registersKept_modifyMem _ m n s fun b => flagsKept_shift hop

theorem exec_registersKept (i : Instr) (s : State) : ∃ t, exec i s = .next t ∧ RegistersKept i.mnemonic i.mode s t := by
  have h := exec_meaning i
  unfold Meaning at h
  cases hop : i.mnemonic <;> rw [hop] at h
  case lda | ldx | ldy | and | ora | eor =>
    obtain ⟨o, -, h⟩ := h
    simp only [h, ldaOp_eq, ldxOp_eq, ldyOp_eq, andOp_eq, oraOp_eq, eorOp_eq]
    exact ⟨_, rfl, { flags := flagsKept_zn (by decide) (by decide) }⟩
  case adc | sbc =>
    obtain ⟨o, -, h⟩ := h
    simp only [h, adcOp_eq, sbcOp_eq]
    exact ⟨_, rfl, { flags := flagsKept_adc (by decide) }⟩
  case cmp | cpx | cpy =>
    obtain ⟨o, -, h⟩ := h
    simp only [h, cmpOp_eq, cpxOp_eq, cpyOp_eq]
    exact ⟨_, rfl, { flags := flagsKept_compare (by decide) }⟩
  case bit =>
    obtain ⟨m, -, h⟩ := h
    exact ⟨_, (h s).trans (bitOp_eq ..), { flags := flagsKept_bit }⟩
  case sta | stx | sty =>
    obtain ⟨m, -, h⟩ := h
    simp only [h, staOp_eq, stxOp_eq, styOp_eq]
    exact ⟨_, rfl, { flags := by simp [FlagsKept] }⟩
  case inc | dec =>
    obtain ⟨m, -, h⟩ := h
    rw [h]
    exact registersKept_modifyMem _ m _ s fun b => flagsKept_zn (by decide) (by decide)
  case asl | lsr | rol | ror =>
    exact registersKept_shift (by decide) (h.imp (fun h => ⟨h.1, h.2 s⟩) fun ⟨m, _, h⟩ => ⟨m, h s⟩)
  case bpl | bmi | bvc | bvs | bcc | bcs | bne | beq =>
    obtain ⟨off, -, -, h⟩ := h
    rw [h]
    exact registersKept_branch (by decide) _ s _ off
  case jmp =>
    obtain ⟨a, rfl⟩ | ⟨a, rfl⟩ := h
    · exact ⟨_, rfl, { flags := .refl }⟩
    · exact ⟨_, jmpOpInd_eq .., { flags := by simp [FlagsKept, indirectTarget]
                                  a := by simp [indirectTarget]
                                  x := by simp [indirectTarget]
                                  y := by simp [indirectTarget]
                                  sp := by simp [indirectTarget] }⟩
  case jsr =>
    obtain ⟨a, rfl⟩ := h
    exact ⟨_, jsrOp_eq .., { flags := .refl }⟩
  case tax | tay | txa | tya | tsx | inx | iny | dex | dey =>
    subst h
    exact ⟨_, rfl, { flags := flagsKept_zn (by decide) (by decide) }⟩
  case pla => subst h; exact ⟨_, plaOp_eq .., { flags := flagsKept_zn (by decide) (by decide) }⟩
  case txs => subst h; exact ⟨_, txsOp_eq .., { flags := .refl }⟩
  case rts => subst h; exact ⟨_, rtsOp_eq .., { flags := .refl }⟩
  case pha => subst h; exact ⟨_, phaOp_eq .., { flags := .refl }⟩
  case php => subst h; exact ⟨_, phpOp_eq .., { flags := .refl }⟩
  case plp => subst h; exact ⟨_, plpOp_eq .., { flags := flagsKept_pulled (by decide) }⟩
  case rti => subst h; exact ⟨_, rtiOp_eq .., { flags := flagsKept_pulled (by decide) }⟩
  case brk => subst h; exact ⟨_, brkOp_eq .., { flags := flagsKept_put (by decide) }⟩
  case clc | sec | cli | sei | cld | sed | clv =>
    subst h
    exact ⟨_, rfl, .of_status (flagsKept_put (by decide))⟩
  case nop => subst h; exact ⟨_, rfl, .of_status .refl⟩
  case unassigned =>
    obtain ⟨-, -, h⟩ := h
    exact ⟨_, congrFun h s, .of_status .refl⟩

/-- Settles O31: by the writers of each register and flag, mnemonic by mnemonic. -/
theorem registerAndFlagWriters : Obligations.RegisterAndFlagWriters := by
  refine ⟨fun s f => ⟨rfl, by cases f <;> rfl⟩, fun i s => ?_⟩
  obtain ⟨t, hexec, hkept⟩ := exec_registersKept i s
  exact ⟨t, hexec, hkept.a, hkept.x, hkept.y, hkept.sp, hkept.pc, hkept.flags⟩

end Sys2Proof.Proofs
end

section
/-!
Where an instruction stores (O32), mnemonic by mnemonic: nowhere, at its effective address, or at the stack bytes it pushes.
-/

namespace Sys2Proof.Proofs

open Sys2Proof Sys2Proof.Machine Sys2Proof.Laws

/-! ## The addresses of `storedAt`, by kind of instruction -/

/-- The mnemonics that push (R17). -/
def pushingMnemonics : List Mnemonic := [.pha, .php, .jsr, .brk]

theorem storedAt_quiet {i : Instr} (s : State) (h : i.mnemonic ∉ pushingMnemonics ++ storingMnemonics) :
    storedAt i s = [] := by
  simp only [pushingMnemonics, List.mem_append, List.mem_cons, List.not_mem_nil, or_false, not_or] at h
  obtain ⟨⟨hpha, hphp, hjsr, hbrk⟩, hstore⟩ := h
  simp only [storedAt, hpha, hphp, hjsr, hbrk, hstore, or_self, if_false]

theorem storing_not_pushing : ∀ op ∈ storingMnemonics, ¬(op = .pha ∨ op = .php) ∧ op ≠ .jsr ∧ op ≠ .brk := by decide

theorem storedAt_memory {i : Instr} (s : State) {m : MemMode} (hop : i.mnemonic ∈ storingMnemonics) (hm : i.mode = .mem m) :
    storedAt i s = [effAddr m s] := by
  obtain ⟨hpush, hjsr, hbrk⟩ := storing_not_pushing _ hop
  simp only [storedAt, hpush, hjsr, hbrk, hop, hm, if_false, if_true]

theorem storedAt_acc {i : Instr} (s : State) (hop : i.mnemonic ∈ storingMnemonics) (hm : i.mode = .acc) :
    storedAt i s = [] := by
  obtain ⟨hpush, hjsr, hbrk⟩ := storing_not_pushing _ hop
  simp only [storedAt, hpush, hjsr, hbrk, hop, hm, if_false, if_true]

/-! ## What the operations store -/

/-- An operation that writes registers only. -/
theorem storesOnlyAt_registers {s t : State} (hr : t.ram = s.ram) (hp : t.ppu = s.ppu) (hc : t.cart = s.cart) :
    StoresOnlyAt [] s t := storesOnlyAt_regs (storesOnlyAt_refl s) hr hp hc

/-- R17: the three pushes of an exception entry store at three stack bytes. -/
theorem pushedFrame_storesOnlyAt (s : State) (pc : Word) (status : Byte) :
    StoresOnlyAt [stackAddr s.sp, stackAddr (s.sp - 1), stackAddr (s.sp - 2)] s (s.setRam (pushedFrame s pc status)) :=
  storesOnlyAt_trans (push_storesOnlyAt s s.sp (hi8 pc))
    (storesOnlyAt_trans (push_storesOnlyAt _ (s.sp - 1) (lo8 pc)) (push_storesOnlyAt _ (s.sp - 2) status))

theorem modifyMem_storesOnlyAt (f : Byte → Byte → Byte × Byte) (m : MemMode) (n : Nat) (s : State) :
    ∃ t, modifyMem f m n s = .next t ∧ StoresOnlyAt [effAddr m s] s t :=
  ⟨_, modifyMem_eq' .., storesOnlyAt_regs
    (storesOnlyAt_trans (readOperand_storesOnlyAt s (.mem m)) (memWrite_storesOnlyAt _ _ _)) rfl rfl rfl⟩

/-- A shift stores only in its memory form. -/
theorem shift_storesOnlyAt {i : Instr} {s : State} {n : Nat} {f : Byte → Byte → Byte × Byte}
    (hop : i.mnemonic ∈ storingMnemonics)
    (h : (i.mode = .acc ∧ exec i s = modifyAcc f n s) ∨ ∃ m, i.mode = .mem m ∧ exec i s = modifyMem f m n s) :
    ∃ t, exec i s = .next t ∧ StoresOnlyAt (storedAt i s) s t := by
  rcases h with ⟨hm, h⟩ | ⟨m, hm, h⟩
  · rw [h, storedAt_acc s hop hm]
    exact ⟨_, modifyAcc_eq .., storesOnlyAt_registers rfl rfl rfl⟩
  · rw [h, storedAt_memory s hop hm]
    exact modifyMem_storesOnlyAt ..

theorem branchOn_storesOnlyAt (cond : Bool) (off : Byte) (s : State) :
    ∃ t, branchOn cond off s = .next t ∧ StoresOnlyAt [] s t := by
  cases cond <;> exact ⟨_, rfl, storesOnlyAt_registers rfl rfl rfl⟩

/-! ## Every instruction -/

/-- Settles O32: a data read and the registers store nothing, so what is left is the write or the pushes. -/
theorem instructionsStoreOnlyThere : Obligations.InstructionsStoreOnlyThere := by
  intro i s
  have h := exec_meaning i
  unfold Meaning at h
  cases hop : i.mnemonic <;> rw [hop] at h
  case lda | ldx | ldy | and | ora | eor | adc | sbc | cmp | cpx | cpy =>
    obtain ⟨o, -, h⟩ := h
    rw [storedAt_quiet s (by rw [hop]; decide)]
    exact ⟨_, h s, storesOnlyAt_regs (readOperand_storesOnlyAt s o) rfl rfl rfl⟩
  case bit =>
    obtain ⟨m, -, h⟩ := h
    rw [storedAt_quiet s (by rw [hop]; decide)]
    exact ⟨_, h s, storesOnlyAt_regs (readOperand_storesOnlyAt s (.mem m)) rfl rfl rfl⟩
  case sta | stx | sty =>
    obtain ⟨m, hm, h⟩ := h
    rw [storedAt_memory s (by rw [hop]; decide) hm]
    exact ⟨_, h s, storesOnlyAt_regs (memWrite_storesOnlyAt s _ _) rfl rfl rfl⟩
  case inc | dec =>
    obtain ⟨m, hm, h⟩ := h
    rw [h, storedAt_memory s (by rw [hop]; decide) hm]
    exact modifyMem_storesOnlyAt ..
  case asl | lsr | rol | ror =>
    exact shift_storesOnlyAt (by rw [hop]; decide) (h.imp (fun h => ⟨h.1, h.2 s⟩) fun ⟨m, hm, h⟩ => ⟨m, hm, h s⟩)
  case bpl | bmi | bvc | bvs | bcc | bcs | bne | beq =>
    obtain ⟨off, -, -, h⟩ := h
    rw [h, storedAt_quiet s (by rw [hop]; decide)]
    exact branchOn_storesOnlyAt _ off s
  case jmp =>
    obtain ⟨a, rfl⟩ | ⟨a, rfl⟩ := h
    · exact ⟨_, rfl, storesOnlyAt_registers rfl rfl rfl⟩
    · have hreads := storesOnlyAt_trans (memRead_storesOnlyAt s a) (memRead_storesOnlyAt _ (u16 (hi8 a) (lo8 a + 1)))
      exact ⟨_, jmpOpInd_eq .., storesOnlyAt_regs hreads rfl rfl rfl⟩
  case jsr =>
    obtain ⟨a, rfl⟩ := h
    have hpushes := storesOnlyAt_trans (push_storesOnlyAt s s.sp (hi8 (s.pc - 1)))
      (push_storesOnlyAt _ (s.sp - 1) (lo8 (s.pc - 1)))
    exact ⟨_, jsrOp_eq .., storesOnlyAt_regs hpushes rfl rfl rfl⟩
  case pha => subst h; exact ⟨_, phaOp_eq .., storesOnlyAt_regs (push_storesOnlyAt s s.sp s.a) rfl rfl rfl⟩
  case php => subst h; exact ⟨_, phpOp_eq .., storesOnlyAt_regs (push_storesOnlyAt s s.sp (softwareStatus s.p)) rfl rfl rfl⟩
  case brk => subst h; exact ⟨_, brkOp_eq .., storesOnlyAt_regs (pushedFrame_storesOnlyAt s _ _) rfl rfl rfl⟩
  case rts => subst h; exact ⟨_, rtsOp_eq .., storesOnlyAt_registers rfl rfl rfl⟩
  case pla => subst h; exact ⟨_, plaOp_eq .., storesOnlyAt_registers rfl rfl rfl⟩
  case plp => subst h; exact ⟨_, plpOp_eq .., storesOnlyAt_registers rfl rfl rfl⟩
  case rti => subst h; exact ⟨_, rtiOp_eq .., storesOnlyAt_registers rfl rfl rfl⟩
  case unassigned =>
    obtain ⟨-, -, h⟩ := h
    rw [storedAt_quiet s (by rw [hop]; decide)]
    exact ⟨_, congrFun h s, storesOnlyAt_registers rfl rfl rfl⟩
  case tax | tay | txa | tya | tsx | txs | inx | iny | dex | dey | clc | sec | cli | sei | cld | sed | clv | nop =>
    subst h
    exact ⟨_, rfl, storesOnlyAt_registers rfl rfl rfl⟩

end Sys2Proof.Proofs
end

section
/-!
The flags D, B and U change no result (O33). Setting one of them commutes with every status computation, with the bus, and so
with every operation that neither pushes nor loads the status.
-/

namespace Sys2Proof.Proofs

open Sys2Proof Sys2Proof.Machine Sys2Proof.Laws

/-- The flags that no result depends on (R13, R14, R16). -/
def inertFlags : List Flag := [.D, .B, .U]

theorem ne_of_inert {f g : Flag} (hf : f ∈ inertFlags) (hg : g ∉ inertFlags) : f ≠ g := fun e => hg (e ▸ hf)

/-! ## The status computations and the bus -/

section Status

variable {f : Flag} (hf : f ∈ inertFlags) (p : Byte) (v : Bool)
include hf

theorem putFlag_inert {g : Flag} (hg : g ∉ inertFlags) (w : Bool) :
    putFlag (putFlag p f v) g w = putFlag (putFlag p g w) f v := putFlag_comm p (ne_of_inert hf hg) v w

theorem flagOf_inert {g : Flag} (hg : g ∉ inertFlags) : flagOf (putFlag p f v) g = flagOf p g := by
  rw [flagOf_putFlag, if_neg (ne_of_inert hf hg)]

theorem znStatus_inert (b : Byte) : znStatus (putFlag p f v) b = putFlag (znStatus p b) f v := by
  simp only [znStatus, putFlag_inert hf _ _ (show Flag.Z ∉ inertFlags by decide),
    putFlag_inert hf _ _ (show Flag.N ∉ inertFlags by decide)]

theorem adcStatus_inert (a m : Byte) : adcStatus (putFlag p f v) a m = putFlag (adcStatus p a m) f v := by
  simp only [adcStatus, flagOf_inert hf _ _ (show Flag.C ∉ inertFlags by decide),
    putFlag_inert hf _ _ (show Flag.C ∉ inertFlags by decide), putFlag_inert hf _ _ (show Flag.V ∉ inertFlags by decide),
    znStatus_inert hf]

theorem compareStatus_inert (reg m : Byte) : compareStatus (putFlag p f v) reg m = putFlag (compareStatus p reg m) f v := by
  simp only [compareStatus, putFlag_inert hf _ _ (show Flag.C ∉ inertFlags by decide), znStatus_inert hf]

theorem bitStatus_inert (a m : Byte) : bitStatus (putFlag p f v) a m = putFlag (bitStatus p a m) f v := by
  simp only [bitStatus, putFlag_inert hf _ _ (show Flag.Z ∉ inertFlags by decide),
    putFlag_inert hf _ _ (show Flag.V ∉ inertFlags by decide), putFlag_inert hf _ _ (show Flag.N ∉ inertFlags by decide)]

theorem shiftWith_inert (g : Byte → Bool → Byte × Bool) (b : Byte) :
    shiftWith g b (putFlag p f v) = ((shiftWith g b p).1, putFlag (shiftWith g b p).2 f v) := by
  simp only [shiftWith, shiftStatus, flagOf_inert hf _ _ (show Flag.C ∉ inertFlags by decide),
    putFlag_inert hf _ _ (show Flag.C ∉ inertFlags by decide), znStatus_inert hf]

end Status

theorem readOperand_setFlag (s : State) (o : Operand) (f : Flag) (v : Bool) :
    readOperand o (s.setFlag f v) = ((readOperand o s).1, (readOperand o s).2.setP (putFlag s.p f v)) := by
  cases o with
  | imm b => rfl
  | mem m =>
    have hea : effAddr m (s.setFlag f v) = effAddr m s := effAddr_congr m rfl rfl rfl
    rw [readOperand_mem, readOperand_mem, hea]
    exact memRead_setP s _ _

theorem indirectTarget_setFlag (s : State) (a : Word) (f : Flag) (v : Bool) : indirectTarget a (s.setFlag f v) =
    ((indirectTarget a s).1, (indirectTarget a s).2.setP (putFlag s.p f v)) := by
  simp only [indirectTarget, State.setFlag, memRead_setP]

/-! ## The operations -/

/-- The flag `f` changes no result of `g`, and `g` leaves it as it is. -/
def IgnoresFlag (f : Flag) (g : State → Result) : Prop :=
  ∀ (v : Bool) (s : State), ∃ t, g s = .next t ∧ g (s.setFlag f v) = .next (t.setFlag f v)

/-- A meaning that passes its opcode's base cycle count to an operation. -/
theorem ignoresFlag_counted {f : Flag} {op : Nat → State → Result} {g : State → Result} {opcode : Byte}
    (hg : ∀ s, g s = op (baseCount s.params opcode) s) (hop : ∀ n, IgnoresFlag f (op n)) : IgnoresFlag f g := by
  intro v s
  rw [hg, hg]
  exact hop _ v s

section Operations

variable {f : Flag}

/-- R103 to R105: a store of a register. -/
theorem ignoresFlag_store {op : MemMode → Nat → State → Result} {r : State → Byte}
    (hop : ∀ m n s, op m n s = storeByte m (r s) n s) (hr : ∀ s v, r (s.setFlag f v) = r s) (m : MemMode) (n : Nat) :
    IgnoresFlag f (op m n) := by
  intro v s
  have hea : effAddr m (s.setFlag f v) = effAddr m s := effAddr_congr m rfl rfl rfl
  refine ⟨_, hop m n s, ?_⟩
  rw [hop, storeByte, hr, hea, State.setFlag, memWrite_setP, ← memWrite_p s (effAddr m s) (r s)]
  rfl

/-- A read-modify-write operation whose computation commutes with the flag. -/
theorem ignoresFlag_modifyMem {g : Byte → Byte → Byte × Byte}
    (hg : ∀ b p v, g b (putFlag p f v) = ((g b p).1, putFlag (g b p).2 f v)) (m : MemMode) (n : Nat) :
    IgnoresFlag f (modifyMem g m n) := by
  intro v s
  have hea : effAddr m (s.setFlag f v) = effAddr m s := effAddr_congr m rfl rfl rfl
  have hp : (s.setFlag f v).p = putFlag s.p f v := rfl
  refine ⟨_, modifyMem_eq' .., ?_⟩
  simp only [modifyMem_eq', readOperand_setFlag, hea, hp, hg, memWrite_setP]
  rfl

theorem ignoresFlag_modifyAcc {g : Byte → Byte → Byte × Byte}
    (hg : ∀ b p v, g b (putFlag p f v) = ((g b p).1, putFlag (g b p).2 f v)) (n : Nat) : IgnoresFlag f (modifyAcc g n) := by
  intro v s
  have hp : (s.setFlag f v).p = putFlag s.p f v := rfl
  refine ⟨_, modifyAcc_eq .., ?_⟩
  simp only [modifyAcc_eq, hp, show (s.setFlag f v).a = s.a from rfl, hg]
  rfl

variable (hf : f ∈ inertFlags)
include hf

theorem ignoresFlag_read (o : Operand) (n : Nat) :
    ∀ g ∈ [ldaOp o n, ldxOp o n, ldyOp o n, adcOp o n, sbcOp o n, andOp o n, oraOp o n, eorOp o n, cmpOp o n, cpxOp o n,
      cpyOp o n, bitOp o n], IgnoresFlag f g := by
  intro g hg v s
  have hc : (s.setFlag f v).flag .C = s.flag .C := flagOf_inert hf _ _ (by decide)
  have hp : (s.setFlag f v).p = putFlag s.p f v := rfl
  simp only [List.mem_cons, List.not_mem_nil, or_false] at hg
  rcases hg with rfl | rfl | rfl | rfl | rfl | rfl | rfl | rfl | rfl | rfl | rfl | rfl
  all_goals
    simp only [ldaOp_eq, ldxOp_eq, ldyOp_eq, adcOp_eq, sbcOp_eq, andOp_eq, oraOp_eq, eorOp_eq, cmpOp_eq, cpxOp_eq,
      cpyOp_eq, bitOp_eq, readOperand_setFlag, hc, hp, znStatus_inert hf, adcStatus_inert hf, compareStatus_inert hf,
      bitStatus_inert hf]
    exact ⟨_, rfl, rfl⟩

/-- R150: a branch on a flag `k`, taken where `cond` holds of it. -/
theorem ignoresFlag_branch (cond : Bool → Bool) {k : Flag} (hk : k ∉ inertFlags) (off : Byte) :
    IgnoresFlag f fun s => branchOn (cond (s.flag k)) off s := by
  intro v s
  have hflag : (s.setFlag f v).flag k = s.flag k := flagOf_inert hf s.p v hk
  simp only [hflag]
  cases cond (s.flag k) <;> exact ⟨_, rfl, rfl⟩

/-- A shift in either form. -/
theorem ignoresFlag_shift {i : Instr} (g : Byte → Bool → Byte × Bool)
    (h : (∀ s, exec i s = modifyAcc (shiftWith g) (baseCount s.params i.opcode) s) ∨
      ∃ m, ∀ s, exec i s = modifyMem (shiftWith g) m (baseCount s.params i.opcode) s) : IgnoresFlag f (exec i) := by
  have hg : ∀ b p v, shiftWith g b (putFlag p f v) = ((shiftWith g b p).1, putFlag (shiftWith g b p).2 f v) :=
    fun b p v => shiftWith_inert hf p v g b
  rcases h with h | ⟨m, h⟩
  · exact ignoresFlag_counted h fun n => ignoresFlag_modifyAcc hg n
  · exact ignoresFlag_counted h fun n => ignoresFlag_modifyMem hg m n

/-- R15: a value computed from registers and `setZN` of it. -/
theorem ignoresFlag_zn {g : State → Result} {n : State → Nat} {r : State → Byte} {w : State → State}
    (hg : ∀ s, g s = complete (n s) (setZN (r s) (w s))) (hn : ∀ s v, n (s.setFlag f v) = n s)
    (hr : ∀ s v, r (s.setFlag f v) = r s) (hw : ∀ s v, w (s.setFlag f v) = (w s).setFlag f v) : IgnoresFlag f g := by
  intro v s
  refine ⟨_, hg s, ?_⟩
  rw [hg, hn, hr, hw]
  exact congrArg (fun p => complete (n s) ((w s).setP p)) (znStatus_inert hf (w s).p v (r s))

/-- R174 to R177, R180: a write of another flag. -/
theorem ignoresFlag_put {g : State → Result} {n : State → Nat} {k : Flag} {b : Bool}
    (hg : ∀ s, g s = complete (n s) (s.setFlag k b)) (hn : ∀ s v, n (s.setFlag f v) = n s) (hk : k ∉ inertFlags) :
    IgnoresFlag f g := by
  intro v s
  refine ⟨_, hg s, ?_⟩
  rw [hg, hn]
  exact congrArg (fun p => complete (n s) (s.setP p)) (putFlag_inert hf s.p v hk b)

end Operations

/-! ## Every instruction -/

/-- An instruction that does not push, load or write an inert flag does the same whatever that flag holds. -/
theorem exec_ignoresFlag {f : Flag} (hf : f ∈ inertFlags) {i : Instr}
    (hi : i.mnemonic ∉ [.php, .brk, .plp, .rti, .sed, .cld]) : IgnoresFlag f (exec i) := by
  have hzn : ∀ (b p : Byte) (v : Bool), (b, znStatus (putFlag p f v) b) = (b, putFlag (znStatus p b) f v) :=
    fun b p v => congrArg (b, ·) (znStatus_inert hf p v b)
  have h := exec_meaning i
  unfold Meaning at h
  cases hop : i.mnemonic <;> rw [hop] at h
  case php | brk | plp | rti | sed | cld => exact absurd (by rw [hop]; decide) hi
  case lda | ldx | ldy | adc | sbc | and | ora | eor | cmp | cpx | cpy =>
    obtain ⟨o, -, h⟩ := h
    exact ignoresFlag_counted h fun n => ignoresFlag_read hf o n _ (by simp)
  case bit =>
    obtain ⟨m, -, h⟩ := h
    exact ignoresFlag_counted h fun n => ignoresFlag_read hf (.mem m) n _ (by simp)
  case sta | stx | sty =>
    obtain ⟨m, -, h⟩ := h
    exact ignoresFlag_counted h fun n => ignoresFlag_store (fun _ _ _ => rfl) (fun _ _ => rfl) m n
  case inc =>
    obtain ⟨m, -, h⟩ := h
    exact ignoresFlag_counted h fun n =>
      ignoresFlag_modifyMem (g := fun b p => (b + 1, znStatus p (b + 1))) (fun b p v => hzn (b + 1) p v) m n
  case dec =>
    obtain ⟨m, -, h⟩ := h
    exact ignoresFlag_counted h fun n =>
      ignoresFlag_modifyMem (g := fun b p => (b - 1, znStatus p (b - 1))) (fun b p v => hzn (b - 1) p v) m n
  case asl | lsr | rol | ror => exact ignoresFlag_shift hf _ (h.imp And.right fun ⟨m, _, h⟩ => ⟨m, h⟩)
  case bpl => obtain ⟨off, -, -, h⟩ := h; rw [h]; exact ignoresFlag_branch hf not (k := .N) (by decide) off
  case bmi => obtain ⟨off, -, -, h⟩ := h; rw [h]; exact ignoresFlag_branch hf id (k := .N) (by decide) off
  case bvc => obtain ⟨off, -, -, h⟩ := h; rw [h]; exact ignoresFlag_branch hf not (k := .V) (by decide) off
  case bvs => obtain ⟨off, -, -, h⟩ := h; rw [h]; exact ignoresFlag_branch hf id (k := .V) (by decide) off
  case bcc => obtain ⟨off, -, -, h⟩ := h; rw [h]; exact ignoresFlag_branch hf not (k := .C) (by decide) off
  case bcs => obtain ⟨off, -, -, h⟩ := h; rw [h]; exact ignoresFlag_branch hf id (k := .C) (by decide) off
  case bne => obtain ⟨off, -, -, h⟩ := h; rw [h]; exact ignoresFlag_branch hf not (k := .Z) (by decide) off
  case beq => obtain ⟨off, -, -, h⟩ := h; rw [h]; exact ignoresFlag_branch hf id (k := .Z) (by decide) off
  case jmp =>
    obtain ⟨a, rfl⟩ | ⟨a, rfl⟩ := h
    · exact fun v s => ⟨_, rfl, rfl⟩
    · refine ignoresFlag_counted (op := jmpOpInd a) (opcode := 0x6C) (fun _ => rfl) fun n v s => ⟨_, jmpOpInd_eq .., ?_⟩
      rw [jmpOpInd_eq, indirectTarget_setFlag]
      simp [indirectTarget, State.setFlag, State.setP]
  case jsr =>
    obtain ⟨a, rfl⟩ := h
    exact ignoresFlag_counted (op := jsrOp a) (opcode := 0x20) (fun _ => rfl) fun n v s =>
      ⟨_, jsrOp_eq .., jsrOp_eq ..⟩
  case rts =>
    subst h
    exact ignoresFlag_counted (op := rtsOp) (opcode := 0x60) (fun _ => rfl) fun n v s => ⟨_, rtsOp_eq .., rtsOp_eq ..⟩
  case pha =>
    subst h
    exact ignoresFlag_counted (op := phaOp) (opcode := 0x48) (fun _ => rfl) fun n v s => ⟨_, phaOp_eq .., phaOp_eq ..⟩
  case pla =>
    subst h
    refine ignoresFlag_counted (op := plaOp) (opcode := 0x68) (fun _ => rfl) fun n v s => ⟨_, plaOp_eq .., ?_⟩
    simp [plaOp_eq, State.setFlag, State.setP, znStatus_inert hf]
  case tax | tay | txa | tya | tsx | inx | iny | dex | dey =>
    subst h
    exact ignoresFlag_zn hf (fun _ => rfl) (fun _ _ => rfl) (fun _ _ => rfl) (fun _ _ => rfl)
  case clc | sec | cli | sei | clv =>
    subst h
    exact ignoresFlag_put hf (fun _ => rfl) (fun _ _ => rfl) (by decide)
  case txs | nop => subst h; exact fun v s => ⟨_, rfl, rfl⟩
  case unassigned => obtain ⟨-, -, h⟩ := h; rw [h]; exact fun v s => ⟨_, rfl, rfl⟩

/-- Settles O33: an instruction on the state with the flag replaced answers its next state with the flag replaced. -/
theorem unusedFlagsAreInert : Obligations.UnusedFlagsAreInert := by
  intro i s f v hf hi
  obtain ⟨t, hexec, hexec'⟩ := exec_ignoresFlag hf hi v s
  exact ⟨t, hexec, hexec', _, flagsAfter_putFlag s.p f v, rfl⟩

end Sys2Proof.Proofs
end

section
/-!
The CPU bus: the router row by row (O35, O37), what a read changes (O36), what memory reads as after a write (O38).
-/

namespace Sys2Proof.Proofs

open Sys2Proof.Machine Sys2Proof.Laws

/-- The masks of R43 and R44 as remainders. -/
theorem ramMask_eq_mod (n : Nat) : n &&& 0x07FF = n % 0x0800 := Nat.and_two_pow_sub_one_eq_mod n 11

theorem portMask_eq_mod (n : Nat) : n &&& 7 = n % 8 := Nat.and_two_pow_sub_one_eq_mod n 3

/-- Settles O35: each row is the law of its device, with the mirrors as masks. -/
theorem routerReads : Obligations.RouterReads := by
  intro s a
  rw [ramMask_eq_mod, portMask_eq_mod]
  refine ⟨fun h => memRead_at_ram s (by omega), fun h h' => memRead_at_port s h (by omega), fun h h' => ?_,
    memRead_at_joypad s, fun h => ?_, fun h h' => ?_, fun h h' => memRead_at_prgRam s h (by omega), memRead_at_prgRom s⟩
  · rw [memRead_at_unmapped s h (by omega) (by omega), if_neg (by omega)]
  · rw [memRead_at_unmapped s (by omega) (by omega) (by omega), if_pos h]
  · rw [memRead_at_unmapped s (by omega) (by omega) (by omega), if_neg (by omega)]

/-- Settles O37: each row is the law of its device, with the mirrors as masks. -/
theorem routerWrites : Obligations.RouterWrites := by
  intro s a v
  rw [ramMask_eq_mod, portMask_eq_mod]
  have unmapped (h : 0x4000 ≤ a.toNat) (h' : a.toNat < 0x6000) := memWrite_at_unmapped s v h h'
  exact ⟨fun h => memWrite_at_ram s v (by omega), fun h h' => memWrite_at_port s v h (by omega),
    fun h h' => unmapped h (by omega) (by omega) (by omega), memWrite_at_dma s v,
    fun h => unmapped (by omega) (by omega) (by omega) (by omega), memWrite_at_joypad s v,
    fun h h' => unmapped (by omega) (by omega) (by omega) (by omega), fun h h' => memWrite_at_prgRam s v h (by omega),
    memWrite_at_prgRom s v⟩

/-- R196, R202: of the port reads, only those of ports 2 and 7 change the machine. -/
theorem ppuRegRead_state (s : State) {r : Nat} (h2 : r ≠ 2) (h7 : r ≠ 7) : (ppuRegRead s r).2 = s := by
  unfold ppuRegRead
  rw [if_neg h2, if_neg h7]
  split <;> rfl

/-- R55: a read outside ports 2 and 7 and `$4016` changes nothing. -/
theorem memRead_state {s : State} {a : Word} (h2 : ¬ IsPort 2 a) (h7 : ¬ IsPort 7 a) (hpad : a.toNat ≠ 0x4016) :
    (memRead s a).2 = s := by
  by_cases hmem : isMemory a = true
  · exact memRead_memory s hmem
  simp only [isMemory, Bool.or_eq_true, decide_eq_true_eq, not_or] at hmem
  by_cases hport : a.toNat < 0x4000
  · rw [memRead_at_port s (by omega) hport]
    exact ppuRegRead_state s (by omega) (by omega)
  · rw [memRead_at_unmapped s (by omega) (by omega) hpad]

/-- Settles O36: the bus's read effects, and the rows without any. -/
theorem readSideEffects : Obligations.ReadSideEffects := fun s a =>
  ⟨memRead_effects s a, fun h2 h7 hpad => memRead_state h2 h7 fun e => hpad (BitVec.eq_of_toNat_eq e)⟩

theorem isMemory_iff (a : Word) : isMemory a = true ↔ a.toNat ≤ 0x1FFF ∨ 0x6000 ≤ a.toNat := by
  simp only [isMemory, Bool.or_eq_true, decide_eq_true_eq]
  omega

/-- R43, R49: a byte stored in work RAM or program RAM is read at every address of its cell. -/
theorem memRead_memWrite_sameCell (s : State) {a b : Word} (v : Byte) (hb : isMemory b = true) (hab : SameCell a b)
    (hram : a.toNat < 0x8000) : (memRead (memWrite s a v) b).1 = v := by
  have hrow := (isMemory_iff b).1 hb
  rw [memRead_byte hb, memWrite_workRam, memWrite_prgRam]
  rcases hab with rfl | ⟨ha, hb', hcell⟩
  · by_cases hlow : a.toNat < 0x2000
    · rw [if_pos hlow, if_pos hlow, read_write_same]
    · rw [if_neg hlow, if_pos hram, if_pos ⟨by omega, hram⟩, read_write_same]
  · rw [if_pos hb', if_pos ha, hcell, read_write_same]

/-- Settles O38: a write stores in its own cell, or, to program ROM, nowhere; `memWrite_other` keeps the other cells. -/
theorem readAfterWrite : Obligations.ReadAfterWrite :=
  ⟨isMemory_iff, fun s a b v hb => ⟨memRead_memWrite_sameCell s v hb, fun _ hrom => by rw [memWrite_at_prgRom s v hrom],
    memWrite_other s a b v hb⟩⟩

end Sys2Proof.Proofs
end

section
/-!
The OAM DMA (O39). No read's effect depends on OAM, so after `n` bytes the machine is that after the page's first `n`
reads, but for OAM (`dmaAfter_eq`); what those reads change is said page by page.
-/

namespace Sys2Proof.Proofs

open Sys2Proof Sys2Proof.Machine Sys2Proof.Laws

/-- Replace OAM. -/
def withOam (s : State) (m : Memory) : State := { s with ppu := { s.ppu with oam := m } }

/-! ## Reads and OAM -/

theorem readVideoData_withOam (s : State) (m : Memory) :
    readVideoData (withOam s m) = ((readVideoData s).1, withOam (readVideoData s).2 m) := by
  by_cases hpal : 0x3F00 ≤ s.ppu.vramAddress.toNat
  · have hpal' : 0x3F00 ≤ (withOam s m).ppu.vramAddress.toNat := hpal
    simp only [readVideoData, hpal, hpal', if_true]
    rfl
  · have hpal' : ¬ 0x3F00 ≤ (withOam s m).ppu.vramAddress.toNat := hpal
    simp only [readVideoData, hpal, hpal', if_false]
    rfl

/-- R55: no read's effect depends on OAM. -/
theorem memRead_withOam_state (s : State) (m : Memory) (a : Word) :
    (memRead (withOam s m) a).2 = withOam (memRead s a).2 m := by
  by_cases h2 : IsPort 2 a
  · obtain ⟨hlo, hhi, hport⟩ := h2
    rw [memRead_at_port _ hlo hhi, memRead_at_port _ hlo hhi, hport]
    rfl
  by_cases h7 : IsPort 7 a
  · obtain ⟨hlo, hhi, hport⟩ := h7
    rw [memRead_at_port _ hlo hhi, memRead_at_port _ hlo hhi, hport]
    exact congrArg Prod.snd (readVideoData_withOam s m)
  by_cases hpad : a.toNat = 0x4016
  · rw [memRead_at_joypad _ hpad, memRead_at_joypad _ hpad]
    rfl
  rw [memRead_state h2 h7 hpad, memRead_state h2 h7 hpad]

/-- Only the PPU's ports show OAM. -/
theorem memRead_withOam_byte (s : State) (m : Memory) {a : Word} (h : a.toNat < 0x2000 ∨ 0x4000 ≤ a.toNat) :
    (memRead (withOam s m) a).1 = (memRead s a).1 := by
  by_cases hmem : isMemory a = true
  · rw [memRead_byte hmem, memRead_byte hmem]
    rfl
  simp only [isMemory_iff, not_or] at hmem
  by_cases hpad : a.toNat = 0x4016
  · rw [memRead_at_joypad _ hpad, memRead_at_joypad _ hpad]
    rfl
  · rw [memRead_at_unmapped _ (by omega) (by omega) hpad, memRead_at_unmapped _ (by omega) (by omega) hpad]

/-! ## The copy -/

section Copy

variable (page : Byte) (s : State)

theorem dmaAfter_oamAddress (n : Nat) : (dmaAfter page s n).ppu.oamAddress = s.ppu.oamAddress := by
  induction n with
  | zero => rfl
  | succ n ih => exact (memRead_ppu_oamAddress ..).trans ih

/-- The store of byte `n` (R48). -/
theorem dmaAfter_succ_oam (n : Nat) : (dmaAfter page s (n + 1)).ppu.oam =
    (dmaAfter page s n).ppu.oam.write ((s.ppu.oamAddress.toNat + n) % 256)
      (memRead (dmaAfter page s n) (u16 page (BitVec.ofNat 8 n))).1 :=
  congrArg (Memory.write · _ _) (memRead_ppu_oam ..)

theorem oamDmaStep_dmaAfter (n : Nat) : oamDmaStep page (dmaAfter page s n) n = dmaAfter page s (n + 1) := by
  simp only [oamDmaStep, dmaAfter, memRead_ppu_oamAddress, dmaAfter_oamAddress]
  rfl

theorem foldl_oamDmaStep (n : Nat) : (List.range n).foldl (oamDmaStep page) s = dmaAfter page s n := by
  induction n with
  | zero => rfl
  | succ n ih => rw [List.range_succ, List.foldl_append, ih, List.foldl_cons, List.foldl_nil, oamDmaStep_dmaAfter]

theorem memWrite_dma : memWrite s 0x4014 page = dmaAfter page s 256 :=
  (memWrite_at_dma s page rfl).trans (foldl_oamDmaStep page s 256)

theorem dmaAfter_eq (n : Nat) :
    dmaAfter page s n = withOam (readsAfter page s n) (dmaAfter page s n).ppu.oam := by
  induction n with
  | zero => rfl
  | succ n ih =>
    have hread : (memRead (dmaAfter page s n) (u16 page (BitVec.ofNat 8 n))).2 =
        withOam (readsAfter page s (n + 1)) (dmaAfter page s n).ppu.oam := by
      rw [ih, memRead_withOam_state]
      rfl
    exact (congrArg (withOam · (dmaAfter page s (n + 1)).ppu.oam) hread :)

/-- R48: the 256 places of a copy differ, so byte `k` stays where it is stored. -/
theorem dmaAfter_oam_read {n k : Nat} (hk : k < n) (hn : n ≤ 256) :
    (dmaAfter page s n).ppu.oam.read ((s.ppu.oamAddress.toNat + k) % 256) =
      (memRead (dmaAfter page s k) (u16 page (BitVec.ofNat 8 k))).1 := by
  induction n with
  | zero => omega
  | succ n ih =>
    rw [dmaAfter_succ_oam]
    rcases Nat.lt_succ_iff_lt_or_eq.1 hk with hlt | rfl
    · rw [read_write_other _ _ (by omega), ih hlt (by omega)]
    · exact read_write_same ..

/-- A copy from a page whose reads together make `t` of the machine. -/
theorem memWrite_dma_of_readsAfter {t : State} (h : readsAfter page s 256 = t) :
    memWrite s 0x4014 page = withOam t (memWrite s 0x4014 page).ppu.oam := by
  rw [memWrite_dma, ← h]
  exact dmaAfter_eq page s 256

end Copy

/-! ## The reads of a page -/

theorem toNat_pageByte (page : Byte) (k : Nat) :
    (u16 page (BitVec.ofNat 8 k)).toNat = page.toNat * 256 + k % 256 := by
  rw [toNat_u16, BitVec.toNat_ofNat]

section Pages

variable {page : Byte}

/-- A page of memory or of unmapped addresses. -/
theorem readsAfter_plain (h : page.toNat < 0x20 ∨ 0x41 ≤ page.toNat) (s : State) (n : Nat) : readsAfter page s n = s := by
  induction n with
  | zero => rfl
  | succ n ih =>
    have haddr := toNat_pageByte page n
    rw [readsAfter, ih, memRead_state (by omega) (by omega) (by omega)]

/-- Page `$40`: the one device is the joypad, at byte 22. -/
theorem readsAfter_joypad (h : page.toNat = 0x40) (s : State) {n : Nat} (hn : n ≤ 256) :
    readsAfter page s n = if n ≤ 22 then s else (joypadRead s).2 := by
  induction n with
  | zero => rfl
  | succ n ih =>
    have haddr := toNat_pageByte page n
    rw [readsAfter, ih (by omega)]
    rcases Nat.lt_trichotomy n 22 with hlt | rfl | hgt
    · rw [if_pos (by omega), if_pos (by omega), memRead_state (by omega) (by omega) (by omega)]
    · rw [if_pos (by omega), if_neg (by omega), memRead_at_joypad _ (by omega)]
    · rw [if_neg (by omega), if_neg (by omega), memRead_state (by omega) (by omega) (by omega)]

/-- The machine after the first `n` port reads in ascending order from port 0 (R194, R200): port 2 has been read if
`3 ≤ n`, port 7 `n / 8` times; `b` stands in `readBuffer`. -/
def afterPortReads (s : State) (n : Nat) (b : Byte) : State :=
  { s with ppu := { s.ppu with
      status := if 3 ≤ n then s.ppu.status &&& 0x7F else s.ppu.status
      addressLatch := if 3 ≤ n then false else s.ppu.addressLatch
      vramAddress := s.ppu.vramAddress + BitVec.ofNat 14 (n / 8) * vramIncrement s.ppu.control
      readBuffer := b } }

theorem readVideoData_state (s : State) : ∃ b, (readVideoData s).2 = { s with ppu := { s.ppu with
    vramAddress := s.ppu.vramAddress + vramIncrement s.ppu.control, readBuffer := b } } := by
  unfold readVideoData
  split
  · exact ⟨s.ppu.readBuffer, rfl⟩
  · exact ⟨_, rfl⟩

/-- The next port read of the run. -/
theorem ppuRegRead_afterPortReads (s : State) (n : Nat) (b : Byte) :
    ∃ b', (ppuRegRead (afterPortReads s n b) (n % 8)).2 = afterPortReads s (n + 1) b' := by
  by_cases h2 : n % 8 = 2
  · have hcount : (n + 1) / 8 = n / 8 := by omega
    have hclear : (if 3 ≤ n then s.ppu.status &&& 0x7F else s.ppu.status) &&& 0x7F = s.ppu.status &&& 0x7F := by
      split
      · rw [BitVec.and_assoc, BitVec.and_self]
      · rfl
    refine ⟨b, ?_⟩
    simp only [h2, ppuRegRead, readStatus, afterPortReads, State.setPpu, if_true, hclear, hcount,
      if_pos (show 3 ≤ n + 1 by omega)]
  by_cases h7 : n % 8 = 7
  · have hcount : BitVec.ofNat 14 ((n + 1) / 8) = BitVec.ofNat 14 (n / 8) + 1#14 := by
      rw [show (n + 1) / 8 = n / 8 + 1 by omega, BitVec.ofNat_add]
    have hread : ppuRegRead (afterPortReads s n b) (n % 8) = readVideoData (afterPortReads s n b) := by rw [h7]; rfl
    obtain ⟨b', hb'⟩ := readVideoData_state (afterPortReads s n b)
    refine ⟨b', ?_⟩
    rw [hread, hb']
    simp only [afterPortReads, hcount, BitVec.add_mul, BitVec.one_mul, BitVec.add_assoc, if_pos (show 3 ≤ n by omega),
      if_pos (show 3 ≤ n + 1 by omega)]
  · have hcount : (n + 1) / 8 = n / 8 := by omega
    have hstatus : 3 ≤ n + 1 ↔ 3 ≤ n := by omega
    refine ⟨b, ?_⟩
    rw [ppuRegRead_state _ h2 h7]
    simp only [afterPortReads, hcount, hstatus]

/-- A PPU page: its bytes are the eight ports over and over. -/
theorem readsAfter_ports (h : 0x20 ≤ page.toNat) (h' : page.toNat < 0x40) (s : State) (n : Nat) :
    ∃ b, readsAfter page s n = afterPortReads s n b := by
  induction n with
  | zero => exact ⟨s.ppu.readBuffer, by simp [readsAfter, afterPortReads]⟩
  | succ n ih =>
    obtain ⟨b, hb⟩ := ih
    have haddr := toNat_pageByte page n
    have hport : (page.toNat * 256 + n % 256) % 8 = n % 8 := by omega
    rw [readsAfter, hb, memRead_at_port _ (by omega) (by omega), haddr, hport]
    exact ppuRegRead_afterPortReads s n b

end Pages

/-- Settles O39: the copy is the page's reads with OAM replaced; each kind of page says what its reads change. -/
theorem oamDmaCopiesPage : Obligations.OamDmaCopiesPage := by
  intro s page
  have hbyte : ∀ k < 256, (memWrite s 0x4014 page).ppu.oam.read ((s.ppu.oamAddress.toNat + k) % 256) =
      (memRead (dmaAfter page s k) (u16 page (BitVec.ofNat 8 k))).1 := fun k hk => by
    rw [memWrite_dma]
    exact dmaAfter_oam_read page s hk le_rfl
  refine ⟨memWrite_dma page s, hbyte, memWrite_dma_of_readsAfter page s rfl, fun hplain => ⟨?_, fun k hk => ?_⟩,
    fun hlo hhi => ?_, fun hpad => ?_⟩
  · exact memWrite_dma_of_readsAfter page s (readsAfter_plain hplain s 256)
  · have haddr := toNat_pageByte page k
    rw [hbyte k hk, dmaAfter_eq, readsAfter_plain hplain, memRead_withOam_byte _ _ (by omega)]
  · obtain ⟨b, hb⟩ := readsAfter_ports hlo hhi s 256
    rw [hb]
    exact memWrite_dma_of_readsAfter page s hb
  · exact memWrite_dma_of_readsAfter page s (readsAfter_joypad hpad s le_rfl)

end Sys2Proof.Proofs
end

section
/-!
Decoding undoes encoding, and encoding decoding (O1, O2, O4). `decode` hands the two bytes after the opcode to the opcode map
and drops as many as the opcode says; an operand has at most two bytes (R72), so the bytes dropped are the operand.
-/

namespace Sys2Proof.Proofs

open Sys2Proof Sys2Proof.Machine Sys2Proof.Laws

/-- Up to two bytes from the front of a list that is long enough. -/
theorem take_firstTwo {l : List Byte} {n : Nat} (hn : n ≤ 2) (hl : n ≤ l.length) :
    [l.getD 0 0, l.getD 1 0].take n = l.take n := by
  match n, l with
  | 0, _ => rfl
  | 1, _ :: _ => rfl
  | 2, _ :: _ :: _ => rfl

/-- R72: the bytes that an opcode takes after itself are its instruction's operand bytes. -/
theorem operandLength_eq (i : Instr) : opcodeLength i.opcode - 1 = i.mode.bytes.length := by
  rw [← encode_length i]
  rfl

theorem operandLength_le_two (op : Byte) : opcodeLength op - 1 ≤ 2 := by
  have hop := (decodeBytes_spec op 0 0).1
  rw [← hop, operandLength_eq]
  exact mode_bytes_length _

theorem decode_cons (op : Byte) (tl : List Byte) : decode (op :: tl) =
    if tl.length < opcodeLength op - 1 then .error .missingOperand
    else .ok (decodeBytes op (tl.getD 0 0) (tl.getD 1 0), tl.drop (opcodeLength op - 1)) := rfl

theorem decode_encode (i : Instr) (rest : List Byte) : decode (encode i ++ rest) = .ok (i, rest) := by
  have hfront := take_firstTwo (l := i.mode.bytes ++ rest) (mode_bytes_length i.mode) (by simp)
  rw [List.take_left] at hfront
  have hlong : ¬ (i.mode.bytes ++ rest).length < i.mode.bytes.length := by simp
  rw [encode, List.cons_append, decode_cons, operandLength_eq, if_neg hlong, decodeBytes_opcode i _ _ hfront.symm,
    List.drop_left]

/-- Settles O1: the operand bytes are the first bytes after the opcode. -/
theorem decodeEncodeRoundTrip : Obligations.DecodeEncodeRoundTrip :=
  fun i rest => ⟨instr_wellFormed i, decode_encode i rest⟩

/-- An opcode with its operand bytes and the rest of a list make that list again. -/
theorem encode_decodeBytes {op : Byte} {tl : List Byte} (hlong : opcodeLength op - 1 ≤ tl.length) :
    encode (decodeBytes op (tl.getD 0 0) (tl.getD 1 0)) ++ tl.drop (opcodeLength op - 1) = op :: tl := by
  obtain ⟨hop, hbytes⟩ := decodeBytes_spec op (tl.getD 0 0) (tl.getD 1 0)
  rw [encode, hop, hbytes, take_firstTwo (operandLength_le_two op) hlong, List.cons_append, List.take_append_drop]

theorem decode_cons_error_iff (op : Byte) (tl : List Byte) :
    (∃ e, decode (op :: tl) = .error e) ↔ tl.length + 1 < opcodeLength op := by
  rw [decode_cons]
  split
  next hshort => exact iff_of_true ⟨_, rfl⟩ (by omega)
  next hlong => exact iff_of_false (fun ⟨_, h⟩ => nomatch h) (by omega)

/-- Settles O2: a decoded list is its opcode, the operand bytes, and the rest. -/
theorem decodedBytesEncodeBack : Obligations.DecodedBytesEncodeBack := by
  refine ⟨fun bs rest i h => ?_, fun bs => ?_⟩
  · cases bs with
    | nil => exact nomatch h
    | cons op tl =>
      rw [decode_cons] at h
      split at h
      next => exact nomatch h
      next hlong =>
        cases h
        exact encode_decodeBytes (Nat.le_of_not_lt hlong)
  · cases bs with
    | nil => exact iff_of_true ⟨_, rfl⟩ (.inl rfl)
    | cons op tl => simp [decode_cons_error_iff]

theorem decodeTableWord_of_encode {nbits w : Nat} {i : Instr} {rest : List Byte}
    (h : tableWordBytes nbits w = encode i ++ rest) : decodeTableWord nbits w = some i := by
  simp only [decodeTableWord, h, decode_encode]

/-- Settles O4: each word's bytes are the encoding of its instruction, with zero bytes up to three. -/
theorem writtenOutWordsDecode : Obligations.WrittenOutWordsDecode :=
  ⟨decodeTableWord_of_encode (rest := [0]) (by decide),
    decodeTableWord_of_encode (rest := []) (by decide),
    decodeTableWord_of_encode (rest := [0]) (by decide),
    decodeTableWord_of_encode (rest := []) (by decide),
    decodeTableWord_of_encode (rest := [0]) (by decide),
    decodeTableWord_of_encode (rest := []) (by decide),
    decodeTableWord_of_encode (rest := []) (by decide),
    decodeTableWord_of_encode (rest := [0, 0]) (by decide),
    decodeTableWord_of_encode (rest := [0, 0]) (by decide)⟩

end Sys2Proof.Proofs
end

section
/-!
The *Encoding* lines (O3). A line's opcode already fixes the rest of it: the mnemonic and mode are those that the opcode map
has at that opcode, the count is the default of `BASE_CYCLES` there.
-/

namespace Sys2Proof.Proofs

open Sys2Proof Sys2Proof.Machine Sys2Proof.Laws

/-- The lines against R86 and R88, line by line. -/
theorem encodings_opcode {m : Mnemonic} {line : Byte × ModeKey × Nat} (h : line ∈ encodings m) :
    (decodeBytes line.1 0 0).mnemonic = m ∧
    line.2 = ((decodeBytes line.1 0 0).mode.key, baseCount defaultParams line.1) := by
  revert line
  cases m <;> decide

theorem encodedAs_iff (i : Instr) (n : Nat) : EncodedAs i n ↔ n = baseCount defaultParams i.opcode := by
  constructor
  · intro h
    obtain ⟨-, hline⟩ := encodings_opcode h
    exact congrArg Prod.snd hline
  · rintro rfl
    exact encodedAs_default i

theorem mode_bytes_formatLength (m : Mode) : 1 + m.bytes.length = formatLength m.key := by
  cases m with
  | mem m => cases m <;> rfl
  | _ => rfl

/-- Settles O3: the opcode of a line fixes the line. -/
theorem encodingLines : Obligations.EncodingLines := by
  refine ⟨fun i => ?_, fun m op k n h => ?_, fun m m' e e' h h' hop => ?_⟩
  · have hlength : opcodeLength i.opcode = i.length := (encode_length i).symm.trans (Nat.add_comm ..)
    exact ⟨⟨_, ⟨encodedAs_default i, rfl⟩, fun n' => (encodedAs_iff i n').1⟩, mode_bytes_formatLength i.mode, hlength⟩
  · obtain ⟨hm, hline⟩ := encodings_opcode h
    exact ⟨decodeBytes op 0 0, hm, (decodeBytes_spec op 0 0).1, (congrArg Prod.fst hline).symm⟩
  · obtain ⟨hm, hline⟩ := encodings_opcode h
    obtain ⟨hm', hline'⟩ := encodings_opcode h'
    rw [← hop] at hm' hline'
    exact ⟨hm.symm.trans hm', Prod.ext hop (hline.trans hline'.symm)⟩

end Sys2Proof.Proofs
end

section
/-!
How many cycles an instruction takes (O8): by the mode, which is `rel` for the branches only, and by whether the opcode is
assigned. Every operation ends with `complete`, which says the count.
-/

namespace Sys2Proof.Proofs

open Sys2Proof Sys2Proof.Machine Sys2Proof.Laws

/-- R86: the mode `rel` is the branches'. -/
theorem branch_of_rel {m : Mnemonic} (h : .rel ∈ m.modes) : m ∈ branchConditions.map Prod.fst := by
  revert h
  cases m <;> decide

theorem mode_key_mem_modes (i : Instr) : i.mode.key ∈ i.mnemonic.modes := List.contains_iff_mem.1 (instr_wellFormed i)

/-- R88: an assigned opcode that is no branch takes its base cycle count. -/
theorem exec_baseCount {i : Instr} (hrel : i.mode.key ≠ .rel) (hop : i.mnemonic ≠ .unassigned) (s : State) :
    ∃ u, exec i s = complete (baseCount s.params i.opcode) u := by
  have h := exec_meaning i
  unfold Meaning at h
  cases hi : i.mnemonic <;> rw [hi] at h
  case lda | ldx | ldy | adc | sbc | and | ora | eor | cmp | cpx | cpy | bit | sta | stx | sty | inc | dec =>
    obtain ⟨_, -, h⟩ := h
    exact ⟨_, h s⟩
  case asl | lsr | rol | ror => obtain ⟨-, h⟩ | ⟨_, -, h⟩ := h <;> exact ⟨_, h s⟩
  case jmp => obtain ⟨_, rfl⟩ | ⟨_, rfl⟩ := h <;> exact ⟨_, rfl⟩
  case jsr => obtain ⟨_, rfl⟩ := h; exact ⟨_, rfl⟩
  case bpl | bmi | bvc | bvs | bcc | bcs | bne | beq =>
    obtain ⟨off, hmode, -⟩ := h
    exact absurd (congrArg Mode.key hmode) hrel
  case unassigned => exact absurd hi hop
  all_goals subst h; exact ⟨_, rfl⟩

/-- R150: 2 where the branch is not taken, 3 or 4 where it is. -/
theorem branchOn_count (cond : Bool) (off : Byte) (s : State) :
    ∃ n u, branchOn cond off s = complete n u ∧ 2 ≤ n ∧ n ≤ 4 := by
  cases cond
  · exact ⟨2, s, rfl, by decide⟩
  · exact ⟨_, _, rfl, by split <;> decide⟩

theorem exec_branch_count {i : Instr} (hrel : i.mode.key = .rel) (s : State) :
    ∃ n u, exec i s = complete n u ∧ 2 ≤ n ∧ n ≤ 4 := by
  have hop := branch_of_rel (hrel ▸ mode_key_mem_modes i)
  have h := exec_meaning i
  unfold Meaning at h
  simp only [branchConditions, List.map_cons, List.map_nil, List.mem_cons, List.not_mem_nil, or_false] at hop
  rcases hop with hi | hi | hi | hi | hi | hi | hi | hi <;> rw [hi] at h
  all_goals
    obtain ⟨off, -, -, h⟩ := h
    rw [h]
    exact branchOn_count _ off s

/-- R186: the unassigned opcodes are one-byte no-ops. -/
theorem exec_unassigned {i : Instr} (hop : i.mnemonic = .unassigned) :
    i.mode.key ≠ .rel ∧ EncodedAs i 2 ∧ ∀ s, exec i s = complete 2 s := by
  have h := exec_meaning i
  unfold Meaning at h
  rw [hop] at h
  obtain ⟨hmode, hline, h⟩ := h
  exact ⟨by rw [hmode]; decide, hline, congrFun h⟩

theorem baseCount_default {params : Params} (h : params.baseCycles = defaultBaseCycles) (op : Byte) :
    baseCount params op = baseCount defaultParams op := by
  simp only [baseCount, h, defaultParams]

/-- R86: no cell holds another count. -/
theorem defaultCount_bounds : ∀ op, 2 ≤ baseCount defaultParams op ∧ baseCount defaultParams op ≤ 7 := by decide

/-- Settles O8: an unassigned opcode, a branch, or any other instruction. -/
theorem everyInstructionCompletes : Obligations.EveryInstructionCompletes := by
  intro i s
  by_cases hop : i.mnemonic = .unassigned
  · obtain ⟨hrel, hline, h⟩ := exec_unassigned hop
    exact ⟨_, h s, fun _ hne => absurd hop hne, fun hr => absurd hr hrel, fun _ => rfl,
      fun _ => ⟨Nat.le_refl 2, show 2 ≤ 7 by decide, fun _ => hline⟩⟩
  by_cases hrel : i.mode.key = .rel
  · obtain ⟨n, u, h, hlo, hhi⟩ := exec_branch_count hrel s
    exact ⟨_, h, fun hne => absurd hrel hne, fun _ => ⟨hlo, hhi⟩, fun hun => absurd hun hop,
      fun _ => ⟨hlo, hhi.trans (by decide), fun hne => absurd hrel hne⟩⟩
  · obtain ⟨u, h⟩ := exec_baseCount hrel hop s
    refine ⟨_, h, fun _ _ => rfl, fun hr => absurd hr hrel, fun hun => absurd hun hop, fun hparams => ?_⟩
    have hcount := baseCount_default hparams i.opcode
    obtain ⟨hlo, hhi⟩ := defaultCount_bounds i.opcode
    exact ⟨hcount ▸ hlo, hcount ▸ hhi, fun _ => hcount ▸ encodedAs_default i⟩

end Sys2Proof.Proofs
end

section
/-!
The effective addresses in numbers (O34).
-/

namespace Sys2Proof.Proofs

open Sys2Proof Sys2Proof.Machine Sys2Proof.Laws

theorem toNat_zeroPageAddress (z : Byte) : (u16 0x00 z).toNat = z.toNat := by simp

/-- R79, R82: an index is added over all 16 bits. -/
theorem toNat_add_index (w : Word) (b : Byte) : (w + b.setWidth 16).toNat = (w.toNat + b.toNat) % 65536 := by
  have := b.isLt
  rw [BitVec.toNat_add, BitVec.toNat_setWidth, Nat.mod_eq_of_lt (by omega : b.toNat < 2 ^ 16)]

/-- R81, R82: both bytes of a pointer lie in the zero page, the low byte first. -/
theorem toNat_zeroPagePointer (s : State) (z : Byte) : (zeroPagePointer s z).toNat =
    (s.ram.read z.toNat).toNat + 256 * (s.ram.read ((z.toNat + 1) % 256)).toNat := by
  rw [zeroPagePointer, toNat_u16, zeroPage_eq, zeroPage_eq, BitVec.toNat_add, Nat.mul_comm, Nat.add_comm]
  rfl

/-- Settles O34, mode by mode. -/
theorem effectiveAddresses : Obligations.EffectiveAddresses := by
  intro s d w
  have hindexed : ∀ index : Byte, (d + index).toNat = (d.toNat + index.toNat) % 256 := BitVec.toNat_add d
  refine ⟨toNat_zeroPageAddress d, (toNat_zeroPageAddress _).trans (hindexed s.x),
    (toNat_zeroPageAddress _).trans (hindexed s.y), rfl, toNat_add_index w s.x, toNat_add_index w s.y, ?_, ?_, rfl,
    readOperand_mem s⟩
  · have h := toNat_zeroPagePointer s (d + s.x)
    rwa [hindexed, Nat.mod_add_mod] at h
  · have h := toNat_add_index (zeroPagePointer s d) s.y
    rwa [toNat_zeroPagePointer] at h

end Sys2Proof.Proofs
end

section
/-!
Loads, stores and transfers (O10, O11, O12). `exec_meaning` names the operation that an instruction runs, and the operation's
equation gives its next state; every instruction has its *Encoding* line.
-/

namespace Sys2Proof.Proofs

open Sys2Proof Sys2Proof.Machine Sys2Proof.Laws

theorem hasLine_default (i : Instr) : HasLine i (baseCount defaultParams i.opcode) := ⟨encodedAs_default i, rfl⟩

/-- Settles O10: a load is one data read, and Z and N are those of the byte read. -/
theorem loadInstructions : Obligations.LoadInstructions := by
  intro i s
  have h := exec_meaning i
  unfold Meaning at h
  have hline := hasLine_default i
  refine ⟨fun hop => ?_, fun hop => ?_, fun hop => ?_⟩ <;> rw [hop] at h <;> obtain ⟨o, hmode, hexec⟩ := h
  · exact ⟨o, _, _, hmode, hline, flagsAfter_znStatus _ _, (hexec s).trans (ldaOp_eq ..)⟩
  · exact ⟨o, _, _, hmode, hline, flagsAfter_znStatus _ _, (hexec s).trans (ldxOp_eq ..)⟩
  · exact ⟨o, _, _, hmode, hline, flagsAfter_znStatus _ _, (hexec s).trans (ldyOp_eq ..)⟩

/-- Settles O11: a store has a memory mode, and is one write at its effective address. -/
theorem storeInstructions : Obligations.StoreInstructions := by
  intro i s
  have h := exec_meaning i
  unfold Meaning at h
  have hline := hasLine_default i
  refine ⟨fun hop => ?_, fun hop => ?_, fun hop => ?_⟩ <;> rw [hop] at h <;> obtain ⟨m, hmode, hexec⟩ := h
  · exact ⟨m, _, hmode, hline, (hexec s).trans (staOp_eq ..)⟩
  · exact ⟨m, _, hmode, hline, (hexec s).trans (stxOp_eq ..)⟩
  · exact ⟨m, _, hmode, hline, (hexec s).trans (styOp_eq ..)⟩

/-- Settles O12: the byte moved gives Z and N, but for TXS. -/
theorem transferInstructions : Obligations.TransferInstructions := by
  intro s
  exact ⟨
    ⟨_, hasLine_default .tax, flagsAfter_znStatus _ _, taxOp_eq ..⟩,
    ⟨_, hasLine_default .tay, flagsAfter_znStatus _ _, tayOp_eq ..⟩,
    ⟨_, hasLine_default .txa, flagsAfter_znStatus _ _, txaOp_eq ..⟩,
    ⟨_, hasLine_default .tya, flagsAfter_znStatus _ _, tyaOp_eq ..⟩,
    ⟨_, hasLine_default .tsx, flagsAfter_znStatus _ _, tsxOp_eq ..⟩,
    hasLine_default .txs, txsOp_eq ..⟩

end Sys2Proof.Proofs
end

section
/-!
Arithmetic and logic (O13 to O19). SBC adds the operand's one's complement, so its numbers are those of ADC with `~~~m`;
`exec_meaning` names each instruction's operation, and the operation's equation gives its next state.
-/

namespace Sys2Proof.Proofs

open Sys2Proof Sys2Proof.Machine Sys2Proof.Laws

/-! ## The sum in numbers -/

/-- The bit that R121 tests for overflow is the sign. -/
theorem and_0x80_ne_zero_iff (x : Byte) : x &&& 0x80 ≠ 0 ↔ x.msb = true := by
  rw [show (0x80 : Byte) = BitVec.twoPow 8 7 from rfl, BitVec.and_twoPow, BitVec.msb_eq_getLsbD_last]
  cases x.getLsbD 7 <;> decide

/-- R121: overflow is two operands of one sign with a result of the other. -/
theorem overflow_iff (a m r : Byte) : (~~~(a ^^^ m)) &&& (a ^^^ r) &&& 0x80 ≠ 0 ↔ a.msb = m.msb ∧ r.msb ≠ a.msb := by
  rw [and_0x80_ne_zero_iff, BitVec.msb_and, BitVec.msb_not, BitVec.msb_xor, BitVec.msb_xor]
  cases a.msb <;> cases m.msb <;> cases r.msb <;> decide

theorem flagsAfter_adcStatus_signs (p a m : Byte) : FlagsAfter p (adcStatus p a m)
    ([(.C, decide (0xFF < adcSum a m (flagOf p .C))),
      (.V, decide (a.msb = m.msb ∧ (adcResult a m (flagOf p .C)).msb ≠ a.msb))] ++ zn (adcResult a m (flagOf p .C))) := by
  intro f
  rw [flagOf_adcStatus]
  cases f
  case V => simp only [overflow_iff]; rfl
  all_goals rfl

/-! ## The complement that SBC adds -/

theorem xor_0xFF (m : Byte) : m ^^^ 0xFF = ~~~m := BitVec.xor_allOnes

theorem adcSum_not (a m : Byte) (c : Bool) : (adcSum a (~~~m) c : Int) = a.toNat - m.toNat - (1 - c.toNat) + 256 := by
  have := m.isLt
  rw [adcSum, BitVec.toNat_not]
  omega

/-- R122: the complement's sum is the difference with borrow. -/
theorem adcResult_not (a m : Byte) (c : Bool) :
    adcResult a (~~~m) c = BitVec.ofInt 8 ((a.toNat : Int) - (m.toNat : Int) - (1 - (c.toNat : Int))) := by
  apply BitVec.eq_of_toNat_eq
  rw [adcResult, ← BitVec.ofInt_natCast, adcSum_not, BitVec.toNat_ofInt, BitVec.toNat_ofInt]
  omega

/-- R122: carry is no borrow. -/
theorem carry_not_iff (a m : Byte) (c : Bool) : 0xFF < adcSum a (~~~m) c ↔ m.toNat + (1 - c.toNat) ≤ a.toNat := by
  have := adcSum_not a m c
  have := c.toNat_le
  omega

theorem flagsAfter_adcStatus_not (p a m : Byte) : FlagsAfter p (adcStatus p a (~~~m))
    ([(.C, decide (m.toNat + (1 - (flagOf p .C).toNat) ≤ a.toNat)),
      (.V, decide (a.msb ≠ m.msb ∧ (adcResult a (~~~m) (flagOf p .C)).msb ≠ a.msb))] ++
      zn (adcResult a (~~~m) (flagOf p .C))) := by
  have hsign : a.msb = (~~~m).msb ↔ a.msb ≠ m.msb := by
    rw [BitVec.msb_not]
    cases a.msb <;> cases m.msb <;> decide
  have h := flagsAfter_adcStatus_signs p a (~~~m)
  simpa only [carry_not_iff, hsign] using h

/-- Settles O13: both are one addition, SBC's of the complement. -/
theorem adcAndSbc : Obligations.AdcAndSbc := by
  intro i s
  have h := exec_meaning i
  unfold Meaning at h
  have hline := hasLine_default i
  refine ⟨fun hop => ?_, fun hop => ?_⟩ <;> rw [hop] at h <;> obtain ⟨o, hmode, hexec⟩ := h
  · exact ⟨o, _, _, _, _, hmode, hline, rfl, rfl, flagsAfter_adcStatus_signs _ _ _, (hexec s).trans (adcOp_eq ..)⟩
  · have hnext := (hexec s).trans (sbcOp_eq ..)
    rw [xor_0xFF] at hnext
    exact ⟨o, _, _, _, _, hmode, hline, rfl, adcResult_not _ _ _, flagsAfter_adcStatus_not _ _ _, hnext⟩

/-- R122: subtracting what was added leaves the two carries less one, since `~~~m` is `-m - 1`. -/
theorem adcResult_adcResult_not (a m : Byte) (c c' : Bool) :
    adcResult (adcResult a m c) (~~~m) c' = a + BitVec.ofNat 8 c.toNat + BitVec.ofNat 8 c'.toNat - 1 := by
  have hnot : ~~~m = -m - 1 := BitVec.not_eq_neg_add m
  simp only [adcResult, adcSum, BitVec.ofNat_add, BitVec.ofNat_toNat, BitVec.setWidth_eq, hnot]
  ring

/-- Settles O14: `A` at the end is given by the two carries. -/
theorem adcThenSbc : Obligations.AdcThenSbc := by
  intro s m
  obtain ⟨t, hadc, hta⟩ : ∃ t, exec (.adcImm m) s = .next t ∧ t.a = adcResult s.a m (s.flag .C) := ⟨_, adcOp_eq .., rfl⟩
  obtain ⟨u, hsbc, hua⟩ : ∃ u, exec (.sbcImm m) t = .next u ∧
      u.a = s.a + BitVec.ofNat 8 (s.flag .C).toNat + BitVec.ofNat 8 (t.flag .C).toNat - 1 := by
    refine ⟨_, sbcOp_eq .., ?_⟩
    rw [← adcResult_adcResult_not s.a m, ← hta, ← xor_0xFF]
    rfl
  refine ⟨t, u, hadc, hsbc, ?_⟩
  rw [hua]
  cases s.flag .C <;> cases t.flag .C <;> simp

/-! ## Logic, compare, bit test -/

/-- Settles O15: each result is the bitwise one, and Z and N are those of it. -/
theorem logicInstructions : Obligations.LogicInstructions := by
  intro i s hmem
  have h := exec_meaning i
  unfold Meaning at h
  have hline := hasLine_default i
  simp only [List.mem_cons, List.not_mem_nil, or_false] at hmem
  rcases hmem with hop | hop | hop <;> rw [hop] at h <;> obtain ⟨o, hmode, hexec⟩ := h
  · refine ⟨o, _, _, _, s.a &&& (readOperand o s).1, hmode, hline, rfl, fun _ _ => BitVec.getLsbD_and, ?_, ?_,
      flagsAfter_znStatus _ _, (hexec s).trans (andOp_eq ..)⟩ <;> simp [hop]
  · refine ⟨o, _, _, _, s.a ||| (readOperand o s).1, hmode, hline, rfl, ?_, fun _ _ => BitVec.getLsbD_or, ?_,
      flagsAfter_znStatus _ _, (hexec s).trans (oraOp_eq ..)⟩ <;> simp [hop]
  · refine ⟨o, _, _, _, s.a ^^^ (readOperand o s).1, hmode, hline, rfl, ?_, ?_, fun _ _ => BitVec.getLsbD_xor,
      flagsAfter_znStatus _ _, (hexec s).trans (eorOp_eq ..)⟩ <;> simp [hop]

/-- R126: Z and N of a difference, in numbers. -/
theorem zn_sub (reg m : Byte) :
    zn (reg - m) = [(.Z, decide (reg = m)), (.N, decide (128 ≤ ((256 + reg.toNat - m.toNat) % 256)))] := by
  have hsub : (reg - m).toNat = (256 + reg.toNat - m.toNat) % 256 := by
    have := m.isLt
    rw [BitVec.toNat_sub]
    omega
  have hzero : reg - m = 0 ↔ reg = m := sub_eq_zero
  simp only [zn, hzero, BitVec.msb_eq_decide, hsub]

theorem flagsAfter_compareStatus_numbers (p reg m : Byte) : FlagsAfter p (compareStatus p reg m)
    [(.C, decide (m.toNat ≤ reg.toNat)), (.Z, decide (reg = m)),
      (.N, decide (128 ≤ ((256 + reg.toNat - m.toNat) % 256)))] :=
  zn_sub reg m ▸ flagsAfter_compareStatus p reg m

/-- Settles O16: the three comparisons differ in the register only. -/
theorem compareInstructions : Obligations.CompareInstructions := by
  intro i s reg hmem
  have h := exec_meaning i
  unfold Meaning at h
  have hline := hasLine_default i
  simp only [List.mem_cons, List.not_mem_nil, or_false, Prod.mk.injEq] at hmem
  rcases hmem with ⟨hop, rfl⟩ | ⟨hop, rfl⟩ | ⟨hop, rfl⟩ <;> rw [hop] at h <;> obtain ⟨o, hmode, hexec⟩ := h
  · exact ⟨o, _, _, _, hmode, hline, rfl, flagsAfter_compareStatus_numbers _ _ _, (hexec s).trans (cmpOp_eq ..)⟩
  · exact ⟨o, _, _, _, hmode, hline, rfl, flagsAfter_compareStatus_numbers _ _ _, (hexec s).trans (cpxOp_eq ..)⟩
  · exact ⟨o, _, _, _, hmode, hline, rfl, flagsAfter_compareStatus_numbers _ _ _, (hexec s).trans (cpyOp_eq ..)⟩

/-- A conjunction of bytes is zero where they share no bit. -/
theorem and_eq_zero_iff_bits (a b : Byte) : a &&& b = 0 ↔ ∀ k : Fin 8, (a.getLsbD k && b.getLsbD k) = false := by
  refine ⟨fun h k => ?_, fun h => BitVec.eq_of_getLsbD_eq fun k hk => ?_⟩
  · rw [← BitVec.getLsbD_and, h]
    exact BitVec.getLsbD_zero
  · rw [BitVec.getLsbD_and, h ⟨k, hk⟩]
    exact BitVec.getLsbD_zero.symm

/-- Settles O17: BIT reads one byte of memory and writes the status only. -/
theorem bitTest : Obligations.BitTest := by
  intro i s hop
  have h := exec_meaning i
  unfold Meaning at h
  rw [hop] at h
  obtain ⟨m, hmode, hexec⟩ := h
  have hflags := flagsAfter_bitStatus s.p s.a (readOperand (.mem m) s).1
  simp only [and_eq_zero_iff_bits] at hflags
  exact ⟨m, _, _, _, hmode, hasLine_default i, rfl, hflags, (hexec s).trans (bitOp_eq ..)⟩

/-! ## Increment and decrement -/

theorem toNat_add_one (b : Byte) : (b + 1).toNat = (b.toNat + 1) % 256 := BitVec.toNat_add b 1

/-- R131: one less is 255 more. -/
theorem toNat_sub_one (b : Byte) : (b - 1).toNat = (b.toNat + 255) % 256 := by
  rw [BitVec.toNat_sub, Nat.add_comm]
  rfl

/-- Settles O18: both are read-modify-write operations. -/
theorem incDecMemory : Obligations.IncDecMemory := by
  intro i s d hmem
  have h := exec_meaning i
  unfold Meaning at h
  have hline := hasLine_default i
  simp only [List.mem_cons, List.not_mem_nil, or_false, Prod.mk.injEq] at hmem
  rcases hmem with ⟨hop, rfl⟩ | ⟨hop, rfl⟩ <;> rw [hop] at h <;> obtain ⟨m, hmode, hexec⟩ := h
  · exact ⟨m, _, _, _, hmode, hline, toNat_add_one _, flagsAfter_znStatus _ _, (hexec s).trans (modifyMem_eq ..)⟩
  · exact ⟨m, _, _, _, hmode, hline, toNat_sub_one _, flagsAfter_znStatus _ _, (hexec s).trans (modifyMem_eq ..)⟩

/-- Settles O19: one more or one less, and Z and N of the result. -/
theorem incDecRegisters : Obligations.IncDecRegisters := by
  intro s
  exact ⟨
    ⟨_, _, hasLine_default .inx, toNat_add_one _, flagsAfter_znStatus _ _, inxOp_eq ..⟩,
    ⟨_, _, hasLine_default .iny, toNat_add_one _, flagsAfter_znStatus _ _, inyOp_eq ..⟩,
    ⟨_, _, hasLine_default .dex, toNat_sub_one _, flagsAfter_znStatus _ _, dexOp_eq ..⟩,
    ⟨_, _, hasLine_default .dey, toNat_sub_one _, flagsAfter_znStatus _ _, deyOp_eq ..⟩⟩

end Sys2Proof.Proofs
end

section
/-!
Shifts and rotates (O20). Each shift is a byte function of the operand and the carry; its numbers are proved per function, and
the two forms, on `A` and on memory, once for all of them.
-/

namespace Sys2Proof.Proofs

open Sys2Proof Sys2Proof.Machine Sys2Proof.Laws

/-! ## The byte functions in numbers -/

theorem getLsbD_seven (m : Byte) : m.getLsbD 7 = decide (128 ≤ m.toNat) := BitVec.msb_eq_decide m

theorem getLsbD_zero_eq_odd (m : Byte) : m.getLsbD 0 = decide (m.toNat % 2 = 1) := Nat.testBit_zero m.toNat

theorem shiftLeft_one (m : Byte) : m <<< 1 = BitVec.ofNat 8 (2 * m.toNat) := by
  apply BitVec.eq_of_toNat_eq
  rw [BitVec.toNat_shiftLeft, Nat.shiftLeft_eq, Nat.mul_comm, BitVec.toNat_ofNat]

theorem shiftRight_one (m : Byte) : m >>> 1 = BitVec.ofNat 8 (m.toNat / 2) := by
  apply BitVec.eq_of_toNat_eq
  have := m.isLt
  rw [BitVec.toNat_ushiftRight, Nat.shiftRight_one, BitVec.toNat_ofNat, Nat.mod_eq_of_lt (by omega)]

theorem and_twoPow_eq_zero {b : Byte} {k : Nat} (h : b.getLsbD k = false) : b &&& BitVec.twoPow 8 k = 0 := by
  rw [BitVec.and_twoPow, h]
  rfl

/-- R142: bit 0 is vacated, so the carry is added there. -/
theorem shiftLeft_one_or_carry (m : Byte) (c : Bool) :
    (m <<< 1 ||| if c then 0x01 else 0x00) = BitVec.ofNat 8 (2 * m.toNat + c.toNat) := by
  have hvacated : m <<< 1 &&& (if c then 0x01 else 0x00) = 0 := by
    cases c
    · exact BitVec.and_zero
    · exact and_twoPow_eq_zero (k := 0) (by simp)
  rw [← BitVec.add_eq_or_of_and_eq_zero _ _ hvacated, shiftLeft_one, BitVec.ofNat_add]
  cases c <;> rfl

/-- R143: bit 7 is vacated, so the carry is added there. -/
theorem shiftRight_one_or_carry (m : Byte) (c : Bool) :
    (m >>> 1 ||| if c then 0x80 else 0x00) = BitVec.ofNat 8 (m.toNat / 2 + 128 * c.toNat) := by
  have hvacated : m >>> 1 &&& (if c then 0x80 else 0x00) = 0 := by
    cases c
    · exact BitVec.and_zero
    · exact and_twoPow_eq_zero (k := 7) (by simp)
  rw [← BitVec.add_eq_or_of_and_eq_zero _ _ hvacated, shiftRight_one, BitVec.ofNat_add]
  cases c <;> rfl

theorem shiftNumbers_asl (m : Byte) (c : Bool) : shiftNumbers .asl m c.toNat = some (aslByte m c) := by
  rw [aslByte, shiftLeft_one, getLsbD_seven]
  rfl

theorem shiftNumbers_lsr (m : Byte) (c : Bool) : shiftNumbers .lsr m c.toNat = some (lsrByte m c) := by
  rw [lsrByte, shiftRight_one, getLsbD_zero_eq_odd]
  rfl

theorem shiftNumbers_rol (m : Byte) (c : Bool) : shiftNumbers .rol m c.toNat = some (rolByte m c) := by
  rw [rolByte, shiftLeft_one_or_carry, getLsbD_seven]
  rfl

theorem shiftNumbers_ror (m : Byte) (c : Bool) : shiftNumbers .ror m c.toNat = some (rorByte m c) := by
  rw [rorByte, shiftRight_one_or_carry, getLsbD_zero_eq_odd]
  rfl

/-! ## The two forms -/

/-- Every shift is `shiftWith` of a byte function with its numbers, on `A` or on memory. -/
theorem shift_meaning {i : Instr} (hop : i.mnemonic ∈ shiftMnemonics) : ∃ f : Byte → Bool → Byte × Bool,
    (∀ m c, shiftNumbers i.mnemonic m c.toNat = some (f m c)) ∧
    ((i.mode = .acc ∧ ∀ s, exec i s = modifyAcc (shiftWith f) (baseCount s.params i.opcode) s) ∨
      ∃ m, i.mode = .mem m ∧ ∀ s, exec i s = modifyMem (shiftWith f) m (baseCount s.params i.opcode) s) := by
  have h := exec_meaning i
  unfold Meaning at h
  simp only [shiftMnemonics, List.mem_cons, List.not_mem_nil, or_false] at hop
  rcases hop with hop | hop | hop | hop <;> rw [hop] at h ⊢
  · exact ⟨aslByte, shiftNumbers_asl, h⟩
  · exact ⟨lsrByte, shiftNumbers_lsr, h⟩
  · exact ⟨rolByte, shiftNumbers_rol, h⟩
  · exact ⟨rorByte, shiftNumbers_ror, h⟩

/-- The *Encoding* lines of the accumulator forms have 2 cycles. -/
theorem encodings_shift_acc : ∀ op ∈ shiftMnemonics, ∀ line ∈ encodings op, line.2.1 = .acc → line.2.2 = 2 := by decide

theorem hasLine_shift_acc {i : Instr} (hop : i.mnemonic ∈ shiftMnemonics) (hacc : i.mode = .acc) : HasLine i 2 := by
  have hline := hasLine_default i
  have hcount := encodings_shift_acc _ hop _ hline.1 (congrArg Mode.key hacc)
  exact hcount ▸ hline

/-- Settles O20: a shift is one byte function, on `A` or on memory. -/
theorem shiftInstructions : Obligations.ShiftInstructions := by
  intro i s hop
  obtain ⟨f, hnumbers, ⟨hmode, hexec⟩ | ⟨m, hmode, hexec⟩⟩ := shift_meaning hop
  · exact ⟨fun _ => ⟨_, _, hnumbers s.a (s.flag .C), hasLine_shift_acc hop hmode, flagsAfter_shiftStatus _ _,
      (hexec s).trans (modifyAcc_eq ..)⟩, fun hne => absurd hmode hne⟩
  · refine ⟨fun hacc => ?_, fun _ => ⟨m, _, _, _, hmode, hasLine_default i, hnumbers _ (s.flag .C),
      flagsAfter_shiftStatus _ _, (hexec s).trans (modifyMem_eq ..)⟩⟩
    rw [hmode] at hacc
    cases hacc

end Sys2Proof.Proofs
end

section
/-!
Branches, jumps, JSR and RTS (O21, O22, O23). The eight branches are `branchOn` of one flag test. RTS undoes JSR by one law
of the stack: a word pushed is the word popped.
-/

namespace Sys2Proof.Proofs

open Sys2Proof Sys2Proof.Machine Sys2Proof.Laws

/-! ## Words in numbers and by masks -/

theorem toNat_hi8 (w : Word) : (hi8 w).toNat = w.toNat / 256 := by
  have := w.isLt
  rw [hi8, BitVec.extractLsb'_toNat, Nat.shiftRight_eq_div_pow]
  omega

/-- R150: the page of an address is its high byte. -/
theorem hi8_ne_iff (w w' : Word) : hi8 w ≠ hi8 w' ↔ w.toNat / 256 ≠ w'.toNat / 256 := by
  rw [Ne, ← BitVec.toNat_inj, toNat_hi8, toNat_hi8]

/-- R150: adding the extended offset is adding the signed offset, modulo 65536. -/
theorem add_sext8 (w : Word) (off : Byte) : w + sext8 off = BitVec.ofInt 16 ((w.toNat : Int) + off.toInt) := by
  rw [BitVec.ofInt_add, BitVec.ofInt_natCast, BitVec.ofNat_toNat, BitVec.setWidth_eq]
  rfl

theorem u16_eq_or (hi lo : Byte) : u16 hi lo = (hi.setWidth 16 <<< 8) ||| lo.setWidth 16 :=
  (BitVec.setWidth_eq _).symm.trans BitVec.setWidth_append_eq_shiftLeft_setWidth_or

theorem and_u16 (w : Word) (hi lo : Byte) : w &&& u16 hi lo = u16 (hi8 w &&& hi) (lo8 w &&& lo) := by
  rw [← u16_hi8_lo8 w, hi8_u16, lo8_u16]
  exact BitVec.and_append

theorem or_u16 (hi lo hi' lo' : Byte) : u16 hi lo ||| u16 hi' lo' = u16 (hi ||| hi') (lo ||| lo') := BitVec.or_append

theorem lo8_add_one (w : Word) : lo8 (w + 1) = lo8 w + 1 := by
  have h (u : Word) : lo8 u = u.setWidth 8 := (BitVec.setWidth_eq_extractLsb' (by decide)).symm
  rw [h, h, BitVec.setWidth_add _ _ (by decide)]
  rfl

/-- R80: only the low byte of the pointer moves on, so the second byte lies in the same page. -/
theorem u16_samePage_next (ptr : Word) : u16 (hi8 ptr) (lo8 ptr + 1) = (ptr &&& 0xFF00) ||| ((ptr + 1) &&& 0x00FF) := by
  have hall (b : Byte) : b &&& 0xFF = b := BitVec.and_allOnes
  rw [show (0xFF00 : Word) = u16 0xFF 0x00 from rfl, show (0x00FF : Word) = u16 0x00 0xFF from rfl, and_u16, and_u16,
    or_u16, hall, hall, lo8_add_one]
  simp

/-- The count of the instruction's *Encoding* line, read off its opcode. -/
theorem hasLine_of_opcode {i : Instr} {op : Byte} {n : Nat} (hop : i.opcode = op) (hn : baseCount defaultParams op = n) :
    HasLine i n := by
  subst hop hn
  exact hasLine_default i

/-! ## Branches -/

/-- R151 to R158: every branch is `branchOn` of its flag test. -/
theorem branch_meaning {i : Instr} {f : Flag} {v : Bool} (h : (i.mnemonic, f, v) ∈ branchConditions) :
    ∃ off, i.mode = .rel off ∧ EncodedAs i 2 ∧ ∀ s, exec i s = branchOn (s.flag f == v) off s := by
  have hm := exec_meaning i
  unfold Meaning at hm
  simp only [branchConditions, List.mem_cons, List.not_mem_nil, or_false, Prod.mk.injEq] at h
  rcases h with ⟨hi, rfl, rfl⟩ | ⟨hi, rfl, rfl⟩ | ⟨hi, rfl, rfl⟩ | ⟨hi, rfl, rfl⟩ | ⟨hi, rfl, rfl⟩ | ⟨hi, rfl, rfl⟩ |
    ⟨hi, rfl, rfl⟩ | ⟨hi, rfl, rfl⟩ <;> rw [hi] at hm
  all_goals
    obtain ⟨off, hmode, hline, hexec⟩ := hm
    refine ⟨off, hmode, hline, fun s => ?_⟩
    simp only [hexec, beq_false, beq_true]
    rfl

theorem branchOn_taken (s : State) (off : Byte) : branchOn true off s = .next { s with
    pc := s.pc + sext8 off, cycles := if (s.pc + sext8 off).toNat / 256 ≠ s.pc.toNat / 256 then 4 else 3 } := by
  simp only [branchOn_eq, hi8_ne_iff, if_true]

/-- Settles O21: the flag decides, and then the pages of the two addresses. -/
theorem branchInstructions : Obligations.BranchInstructions := by
  intro i s f v h
  obtain ⟨off, hmode, hline, hexec⟩ := branch_meaning h
  have htaken (hf : s.flag f = v) := (hexec s).trans (beq_iff_eq.2 hf ▸ branchOn_taken s off)
  refine ⟨off, _, hmode, hline, add_sext8 s.pc off, fun hf => ?_, fun hf hpage => ?_, fun hf hpage => ?_⟩
  · rw [hexec, beq_false_of_ne hf, branchOn_eq]
    rfl
  · rw [htaken hf, if_neg (not_not.2 hpage)]
  · rw [htaken hf, if_pos hpage]

/-! ## Jumps -/

/-- Settles O22: the two reads of `indirectTarget` are those of the pointer and of the next address in its page. -/
theorem jumpInstructions : Obligations.JumpInstructions := by
  intro s w
  refine ⟨⟨hasLine_of_opcode (op := 0x4C) rfl rfl, rfl⟩, hasLine_of_opcode (op := 0x6C) rfl rfl, _, _, rfl, rfl, ?_⟩
  rw [← u16_samePage_next, ← u16_eq_or]
  rfl

/-! ## Subroutines -/

/-- R17: the two bytes of a word pushed lie at different places for every `SP`, so they are popped as they were pushed. -/
theorem popWord_of_pushed {s t : State} {w : Word} (hram : t.ram = (pushWord w s).ram) (hsp : t.sp = (pushWord w s).sp) :
    popWord t = (w, { t with sp := s.sp }) := by
  have hlow : s.sp - 2 + 1 = s.sp - 1 := by bv_omega
  have hhigh : s.sp - 2 + 2 = s.sp := BitVec.sub_add_cancel ..
  have hne : 0x100 + (s.sp - 1).toNat ≠ 0x100 + s.sp.toNat := by bv_omega
  rw [pushWord_eq] at hram hsp
  simp only [popWord_eq, hram, hsp, hlow, hhigh, read_write_same, read_write_other _ _ hne, u16_hi8_lo8]

/-- R161 after R160: RTS goes to the address after the one that lies on the stack. -/
theorem rtsOp_of_pushed {s t : State} {w : Word} (hram : t.ram = (pushWord w s).ram) (hsp : t.sp = (pushWord w s).sp)
    (n : Nat) : rtsOp n t = .next { t with pc := w + 1, sp := s.sp, cycles := n } := by
  rw [rtsOp, popWord_of_pushed hram hsp]
  rfl

/-- Settles O23: the equations of the two operations, and RTS on the word that JSR pushed. -/
theorem subroutineCallAndReturn : Obligations.SubroutineCallAndReturn := by
  intro s w
  refine ⟨⟨hasLine_of_opcode (op := 0x20) rfl rfl, jsrOp_eq ..⟩, ⟨hasLine_of_opcode (op := 0x60) rfl rfl, rtsOp_eq ..⟩,
    _, jsrOp_eq .., ?_⟩
  refine (rtsOp_of_pushed (s := s) (w := s.pc - 1) ?_ ?_ _).trans ?_
  · rw [pushWord_eq]
  · rw [pushWord_eq]
  · rw [BitVec.sub_add_cancel]

end Sys2Proof.Proofs
end

section
/-!
The stack, flag and system instructions (O5, O24, O25, O26, O27). Each operation's equation gives the next state, and the law
of its status computation the flags. The unassigned opcodes are one-byte no-ops, so a CPU step on one is its fetch.
-/

namespace Sys2Proof.Proofs

open Sys2Proof Sys2Proof.Machine Sys2Proof.Laws

/-! ## The stack and the exceptions -/

/-- Settles O24: PHP pushes the software status, PLP loads the pulled status. -/
theorem pushAndPull : Obligations.PushAndPull := by
  intro s
  exact ⟨
    ⟨hasLine_default .pha, phaOp_eq ..⟩,
    ⟨_, hasLine_default .php, flagsAfter_softwareStatus _, phpOp_eq ..⟩,
    ⟨_, _, hasLine_default .pla, rfl, flagsAfter_znStatus _ _, plaOp_eq ..⟩,
    _, _, hasLine_default .plp, rfl, flagsAfter_pulledStatus _, plpOp_eq ..⟩

/-- Settles O26: BRK is an exception entry with the software status. -/
theorem brkTakesException : Obligations.BrkTakesException := by
  intro s
  exact ⟨_, _, hasLine_default .brk, flagsAfter_softwareStatus _, flagsAfter_putFlag _ _ _, brkOp_eq ..⟩

/-- Settles O27: RTI loads the pulled status and the word above it. -/
theorem rtiReturns : Obligations.RtiReturns := by
  intro s
  exact ⟨_, hasLine_default .rti, flagsAfter_pulledStatus _, rtiOp_eq ..⟩

/-! ## Flags -/

/-- R174 to R180: a flag instruction replaces one flag and completes. -/
theorem flagInstruction_meaning {i : Instr} {f : Flag} {v : Bool}
    (h : (i, f, v) ∈ [(Instr.clc, Flag.C, false), (.sec, .C, true), (.cli, .I, false), (.sei, .I, true), (.cld, .D, false),
      (.sed, .D, true), (.clv, .V, false)]) :
    HasLine i 2 ∧ ∀ s, exec i s = complete (baseCount s.params i.opcode) (s.setFlag f v) := by
  simp only [List.mem_cons, List.not_mem_nil, or_false, Prod.mk.injEq] at h
  rcases h with ⟨rfl, rfl, rfl⟩ | ⟨rfl, rfl, rfl⟩ | ⟨rfl, rfl, rfl⟩ | ⟨rfl, rfl, rfl⟩ | ⟨rfl, rfl, rfl⟩ |
    ⟨rfl, rfl, rfl⟩ | ⟨rfl, rfl, rfl⟩
  all_goals exact ⟨hasLine_default _, fun _ => rfl⟩

/-- Settles O25: the one flag is the one that `setFlag` replaces. -/
theorem flagInstructions : Obligations.FlagInstructions := by
  refine ⟨fun s i f v h => ?_, fun s => ⟨hasLine_default .nop, rfl⟩⟩
  obtain ⟨hline, hexec⟩ := flagInstruction_meaning h
  exact ⟨_, hline, flagsAfter_putFlag s.p f v, hexec s⟩

/-! ## Unassigned opcodes -/

/-- R87: at an unassigned opcode the opcode map has an instruction of mode `imp`, whatever bytes follow. -/
theorem decodeBytes_unassigned {op : Byte} (h : op ∈ unassignedOpcodes) (b1 b2 : Byte) :
    (decodeBytes op b1 b2).mnemonic = .unassigned ∧ (decodeBytes op b1 b2).mode.key = .imp := by
  have hline : (op, .imp, 2) ∈ encodings .unassigned := List.mem_map_of_mem h
  obtain ⟨hop, hmode⟩ := encodings_opcode hline
  obtain ⟨hop', hmode'⟩ := decodeBytes_key op b1 b2
  exact ⟨hop'.trans hop, hmode'.trans (congrArg Prod.fst hmode).symm⟩

theorem length_of_imp {i : Instr} (h : i.mode.key = .imp) : i.length = 1 :=
  (mode_bytes_formatLength i.mode).trans (congrArg formatLength h)

/-- R72: where the opcode byte is the whole instruction, the fetch is one read. -/
theorem fetchInstr_oneByte {s : State} (h : opcodeLength (memRead s s.pc).1 = 1) :
    fetchInstr s = ([(memRead s s.pc).1], { (memRead s s.pc).2 with pc := s.pc + 1 }) := by
  simp only [fetchInstr_eq_fetchBytes, h, fetchBytes, fetchByte_eq, State.setPc]

/-- Settles O5: such an opcode decodes to an unassigned instruction of one byte, and a CPU step that fetches it only sets the
count. Named apart from the list `unassignedOpcodes` of the statement. -/
theorem unassignedOpcodes_doNothing : Obligations.UnassignedOpcodes := by
  refine ⟨rfl, fun op hop b1 b2 s => ?_⟩
  have hlength (c1 c2 : Byte) := length_of_imp (decodeBytes_unassigned hop c1 c2).2
  have hexec (c1 c2 : Byte) := (exec_unassigned (decodeBytes_unassigned hop c1 c2).1).2.2
  refine ⟨hlength b1 b2, hexec b1 b2 s, fun hn hi hread => ?_⟩
  have hfetch := fetchInstr_oneByte (s := s) (hread ▸ hlength 0 0)
  rw [cpuStep_eq_exec hn hi, hfetch, hread]
  exact hexec 0 0 _

end Sys2Proof.Proofs
end

section
/-!
The video bus and its mirrors (O42, O43, O44). `ppuRead` and `ppuWrite` go by the rows of R203 and R204; a write followed by a
read is one law per kind of video memory, decided by whether the two addresses name one byte.
-/

namespace Sys2Proof.Proofs

open Sys2Proof.Machine Sys2Proof.Laws

/-! ## The rows of the video bus (R203, R204) -/

section Rows

variable (s : State) (v : Byte) {a : VideoAddr}

theorem ppuRead_at_chr (h : a.toNat < 0x2000) : ppuRead s a = s.cart.chr.read a.toNat := if_pos h

theorem ppuRead_at_nameTable (h : 0x2000 ≤ a.toNat) (h' : a.toNat < 0x3F00) :
    ppuRead s a = s.ppu.nameTableRAM.read (ntIndex s.cart.mirroring a.toNat) :=
  (if_neg h.not_gt).trans (if_pos h')

theorem ppuRead_at_palette (h : 0x3F00 ≤ a.toNat) : ppuRead s a = s.ppu.paletteRAM.read (palIndex a.toNat) :=
  (if_neg (by omega)).trans (if_neg h.not_gt)

theorem ppuWrite_at_chrRam (h : a.toNat < 0x2000) (hram : s.cart.hasCharacterRAM = true) :
    ppuWrite s a v = { s with cart := { s.cart with chr := s.cart.chr.write a.toNat v } } :=
  (if_pos h).trans (if_pos hram)

theorem ppuWrite_at_chrRom (h : a.toNat < 0x2000) (hrom : s.cart.hasCharacterRAM = false) : ppuWrite s a v = s :=
  (if_pos h).trans (if_neg (by rw [hrom]; decide))

theorem ppuWrite_at_nameTable (h : 0x2000 ≤ a.toNat) (h' : a.toNat < 0x3F00) :
    ppuWrite s a v = { s with ppu := { s.ppu with
      nameTableRAM := s.ppu.nameTableRAM.write (ntIndex s.cart.mirroring a.toNat) v } } :=
  (if_neg h.not_gt).trans (if_pos h')

theorem ppuWrite_at_palette (h : 0x3F00 ≤ a.toNat) :
    ppuWrite s a v = { s with ppu := { s.ppu with paletteRAM := s.ppu.paletteRAM.write (palIndex a.toNat) v } } :=
  (if_neg (by omega)).trans (if_neg h.not_gt)

end Rows

/-- The rows of the video bus as one case split. -/
theorem videoRow_cases (a : VideoAddr) :
    a.toNat < 0x2000 ∨ (0x2000 ≤ a.toNat ∧ a.toNat < 0x3F00) ∨ 0x3F00 ≤ a.toNat := by
  omega

/-! ## A video read after a video write -/

/-- In character data two addresses name one byte only where they are the same. -/
theorem sameVideoCell_chr (mode : Mirroring) {a b : VideoAddr} (h : a.toNat < 0x2000) :
    SameVideoCell mode a b ↔ a.toNat = b.toNat := by
  rw [BitVec.toNat_inj]
  exact ⟨fun hab => hab.elim id fun hab => by omega, .inl⟩

theorem sameVideoCell_nameTable (mode : Mirroring) {a b : VideoAddr} (h : 0x2000 ≤ a.toNat) (h' : a.toNat < 0x3F00) :
    SameVideoCell mode a b ↔ (0x2000 ≤ b.toNat ∧ b.toNat < 0x3F00) ∧ ntIndex mode a.toNat = ntIndex mode b.toNat := by
  constructor
  · rintro (rfl | ⟨-, -, hb, hb', hcell⟩ | ⟨ha, -⟩)
    · exact ⟨⟨h, h'⟩, rfl⟩
    · exact ⟨⟨hb, hb'⟩, hcell⟩
    · omega
  · exact fun ⟨⟨hb, hb'⟩, hcell⟩ => .inr (.inl ⟨h, h', hb, hb', hcell⟩)

theorem sameVideoCell_palette (mode : Mirroring) {a b : VideoAddr} (h : 0x3F00 ≤ a.toNat) :
    SameVideoCell mode a b ↔ 0x3F00 ≤ b.toNat ∧ palIndex a.toNat = palIndex b.toNat := by
  constructor
  · rintro (rfl | ⟨-, ha, -⟩ | ⟨-, hb, hcell⟩)
    · exact ⟨h, rfl⟩
    · omega
    · exact ⟨hb, hcell⟩
  · exact fun ⟨hb, hcell⟩ => .inr (.inr ⟨h, hb, hcell⟩)

/-- A write that is stored is read back where the byte is the same, and changes no other byte. Once the row's law is written
out, the branches of the two sides agree or belong to different rows. -/
theorem ppuRead_ppuWrite (s : State) {a : VideoAddr} (b : VideoAddr) (v : Byte) (hw : VideoWritable s a) :
    ppuRead (ppuWrite s a v) b = if SameVideoCell s.cart.mirroring a b then v else ppuRead s b := by
  rcases videoRow_cases a with ha | ⟨ha, ha'⟩ | ha
  · have hram : s.cart.hasCharacterRAM = true := hw.resolve_left (by omega)
    simp only [ppuWrite_at_chrRam s v ha hram, sameVideoCell_chr _ ha, ppuRead, read_write]
    split_ifs <;> first | rfl | omega
  · simp only [ppuWrite_at_nameTable s v ha ha', sameVideoCell_nameTable _ ha ha', ppuRead, read_write]
    split_ifs <;> first | rfl | omega
  · simp only [ppuWrite_at_palette s v ha, sameVideoCell_palette _ ha, ppuRead, read_write]
    split_ifs <;> first | rfl | omega

/-- R204: character ROM drops the write. -/
theorem ppuWrite_of_not_writable {s : State} {a : VideoAddr} (v : Byte) (h : ¬ VideoWritable s a) : ppuWrite s a v = s := by
  obtain ⟨ha, hrom⟩ := not_or.1 h
  exact ppuWrite_at_chrRom s v (Nat.lt_of_not_le ha) (Bool.eq_false_of_not_eq_true hrom)

/-- `NtIndex` goes by the low twelve bits, so `$3000` to `$3EFF` are the bytes of `$2000` to `$2EFF` (R205, D22). -/
theorem ntIndex_sub_0x1000 (mode : Mirroring) {a : Nat} (h : 0x3000 ≤ a) : ntIndex mode a = ntIndex mode (a - 0x1000) := by
  have hlow : (a - 0x2000) % 0x1000 = (a - 0x1000 - 0x2000) % 0x1000 := by omega
  simp only [ntIndex, hlow]

/-- The one byte that a write changes. -/
theorem read_write_at (m : Memory) (i : Nat) (v : Byte) (k : Nat) :
    (m.write i v).read k = if k = i then v else m.read k := by
  simp only [read_write, eq_comm]

/-- Settles O42: the memory of the address's row gets the byte, and `ppuRead_ppuWrite` reads it back. -/
theorem videoReadAfterWrite : Obligations.VideoReadAfterWrite := by
  refine ⟨fun s a => ⟨ppuRead_at_chr s, ppuRead_at_nameTable s, ppuRead_at_palette s⟩,
    fun mode a h _ => ntIndex_sub_0x1000 mode h, fun s a v => ?_, fun s a b v => ⟨fun hab hw => ?_, fun h => ?_⟩⟩
  · rcases videoRow_cases a with ha | ⟨ha, ha'⟩ | ha
    · exact ⟨_, fun _ hram => ⟨ppuWrite_at_chrRam s v ha hram, read_write_at _ _ v⟩, fun _ => ppuWrite_at_chrRom s v ha,
        fun h => by omega, fun h => by omega⟩
    · exact ⟨_, fun h => by omega, fun h => by omega,
        fun _ _ => ⟨ppuWrite_at_nameTable s v ha ha', read_write_at _ _ v⟩, fun h => by omega⟩
    · exact ⟨_, fun h => by omega, fun h => by omega, fun _ h => by omega,
        fun _ => ⟨ppuWrite_at_palette s v ha, read_write_at _ _ v⟩⟩
  · rw [ppuRead_ppuWrite s b v hw, if_pos hab]
  · by_cases hw : VideoWritable s a
    · rw [ppuRead_ppuWrite s b v hw, if_neg (h.resolve_right (not_not.2 hw))]
    · rw [ppuWrite_of_not_writable v hw]

/-! ## The nametable pages (R205) -/

/-- The masks and shifts of R205 as remainders and quotients. -/
theorem ntMasks_eq (l : Nat) : l &&& 0x0FFF = l % 0x1000 ∧ l &&& 0x03FF = l % 0x400 ∧ l &&& 1 = l % 2 ∧
    l >>> 10 = l / 0x400 ∧ l >>> 1 = l / 2 :=
  ⟨Nat.and_two_pow_sub_one_eq_mod l 12, Nat.and_two_pow_sub_one_eq_mod l 10, Nat.and_one_is_mod l,
    Nat.shiftRight_eq_div_pow l 10, Nat.shiftRight_one l⟩

theorem ntIndex_masks (mode : Mirroring) (a : Nat) : ntIndex mode a = (match mode with
    | .vertical => ((((a - 0x2000) &&& 0x0FFF) >>> 10) &&& 1) * 1024 + ((a - 0x2000) &&& 0x03FF)
    | .horizontal => (((((a - 0x2000) &&& 0x0FFF) >>> 10) >>> 1) &&& 1) * 1024 + ((a - 0x2000) &&& 0x03FF)
    | .fourScreen => ((((a - 0x2000) &&& 0x0FFF) >>> 10) &&& 1) * 1024 + ((a - 0x2000) &&& 0x03FF)) := by
  have hoff : (a - 0x2000) % 0x1000 % 0x400 = (a - 0x2000) % 0x400 := Nat.mod_mod_of_dvd _ (by decide)
  cases mode <;> simp only [ntIndex, hoff, ntMasks_eq]

/-- The physical page of a logical page (R205). -/
def physicalPage : Mirroring → Fin 4 → Nat
  | .horizontal, page => page.val / 2
  | .vertical, page => page.val % 2
  | .fourScreen, page => page.val % 2

theorem ntIndex_page (mode : Mirroring) (page : Fin 4) {off : Nat} (h : off < 0x400) :
    ntIndex mode (0x2000 + page.val * 0x400 + off) = physicalPage mode page * 0x400 + off := by
  cases mode <;> simp only [ntIndex, physicalPage] <;> omega

/-- Two logical pages share storage, byte by byte, where they are one physical page. -/
theorem ntIndex_page_eq_iff (mode : Mirroring) (page page' : Fin 4) {off : Nat} (h : off < 0x400) :
    ntIndex mode (0x2000 + page.val * 0x400 + off) = ntIndex mode (0x2000 + page'.val * 0x400 + off) ↔
      physicalPage mode page = physicalPage mode page' := by
  rw [ntIndex_page mode page h, ntIndex_page mode page' h]
  omega

/-- Settles O43: the rule by its bits, and the physical page of each logical page. -/
theorem nametableMirroring : Obligations.NametableMirroring := by
  refine ⟨fun mode a _ _ => ⟨ntIndex_lt mode a, ntIndex_masks mode a⟩, fun off hoff => ?_, fun _ _ _ => rfl⟩
  have same (mode : Mirroring) (page page' : Fin 4) := ntIndex_page_eq_iff mode page page' hoff
  exact ⟨(same .vertical 0 2).2 rfl, (same .vertical 1 3).2 rfl, mt (same .vertical 0 1).1 (by decide),
    (same .horizontal 0 1).2 rfl, (same .horizontal 2 3).2 rfl, mt (same .horizontal 0 2).1 (by decide)⟩

/-! ## The palette's mirrors (R206) -/

theorem palIndex_masks (a : Nat) :
    palIndex a = if (a &&& 0x1F) &&& 0x13 = 0x10 then a &&& 0x0F else a &&& 0x1F := by
  have hall : a &&& 0x1F = a % 0x20 := Nat.and_two_pow_sub_one_eq_mod a 5
  have hlow : a &&& 0x0F = a % 0x20 % 0x10 :=
    (Nat.and_two_pow_sub_one_eq_mod a 4).trans (Nat.mod_mod_of_dvd a (by decide)).symm
  rw [hall, hlow]
  rfl

/-- Settles O44: the rule by its bits; it never gives 16, 20, 24 or 28, so a write leaves those bytes. -/
theorem paletteAliases : Obligations.PaletteAliases := by
  refine ⟨fun a _ _ => ?_, by decide, fun s a v h => ⟨ppuRead_at_palette s h, ppuWrite_at_palette s v h, fun k hk => ?_⟩⟩
  · have hnot := palIndex_not_aliased a
    simp only [List.mem_cons, List.not_mem_nil, or_false, not_or] at hnot
    obtain ⟨h16, h20, h24, h28⟩ := hnot
    exact ⟨palIndex_lt a, h16, h20, h24, h28, fun h => (palIndex_masks a).trans (if_pos h),
      fun h => (palIndex_masks a).trans (if_neg h)⟩
  · rw [ppuWrite_at_palette s v h]
    exact read_write_other _ v fun he => palIndex_not_aliased a.toNat (he ▸ hk)

end Sys2Proof.Proofs
end

section
/-!
The PPU's ports (O40, O41) and the frame's boundaries (O53). The ports' video addresses are put in numbers once; the rest is
each port's own equation.
-/

namespace Sys2Proof.Proofs

open Sys2Proof.Machine Sys2Proof.Laws

/-! ## Video addresses in numbers -/

/-- R193: the 14-bit sum wraps. -/
theorem toNat_add_vramIncrement (w : VideoAddr) (control : Byte) :
    (w + vramIncrement control).toNat = (w.toNat + if control.getLsbD 2 then 32 else 1) % 0x4000 := by
  unfold vramIncrement
  split <;> exact BitVec.toNat_add w _

/-- R199, first write: the low six bits of `v` above the low byte of `w`. -/
theorem toNat_withHighBits (w : VideoAddr) (v : Byte) :
    (v.setWidth 6 ++ w.setWidth 8 : VideoAddr).toNat = (v.toNat &&& 0x3F) <<< 8 ||| (w.toNat &&& 0x00FF) := by
  have hhigh : v.toNat &&& 0x3F = v.toNat % 2 ^ 6 := Nat.and_two_pow_sub_one_eq_mod v.toNat 6
  have hlow : w.toNat &&& 0x00FF = w.toNat % 2 ^ 8 := Nat.and_two_pow_sub_one_eq_mod w.toNat 8
  rw [hhigh, hlow, BitVec.toNat_append, BitVec.toNat_setWidth, BitVec.toNat_setWidth]

/-- The high six bits in their place, by bits. -/
theorem toNat_highBits_shiftLeft (w : VideoAddr) : (w.extractLsb' 8 6).toNat <<< 8 = w.toNat &&& 0x3F00 := by
  have hmask : (0x3F00 : Nat) = (2 ^ 6 - 1) <<< 8 := rfl
  refine Nat.eq_of_testBit_eq fun i => ?_
  rw [hmask, BitVec.extractLsb'_toNat, Nat.testBit_and, Nat.testBit_shiftLeft, Nat.testBit_shiftLeft, Nat.testBit_mod_two_pow,
    Nat.testBit_two_pow_sub_one, Nat.testBit_shiftRight]
  by_cases h : 8 ≤ i
  · simp [h, Bool.and_comm]
  · simp [h]

/-- R199, second write: `v` below the high six bits of `w`. -/
theorem toNat_withLowByte (w : VideoAddr) (v : Byte) :
    (w.extractLsb' 8 6 ++ v : VideoAddr).toNat = (w.toNat &&& 0x3F00) ||| v.toNat := by
  rw [BitVec.toNat_append, toNat_highBits_shiftLeft]

/-! ## The ports -/

/-- R201: the address that port 7 moves on is the one it wrote at. -/
theorem ppuRegWrite_videoData (s : State) (v : Byte) : ppuRegWrite s 7 v = { ppuWrite s s.ppu.vramAddress v with
    ppu := { (ppuWrite s s.ppu.vramAddress v).ppu with
      vramAddress := s.ppu.vramAddress + vramIncrement s.ppu.control } } := by
  change writeVideoData s v = _
  simp only [writeVideoData, incVram, ppuWrite_ppu_vramAddress, ppuWrite_ppu_control, State.setPpu]

/-- R202: the write-only ports read 0 without effect. -/
theorem ppuRegRead_writeOnly (s : State) : ∀ r ∈ [0, 1, 3, 5, 6], ppuRegRead s r = (0x00, s) := by
  intro r hr
  simp only [List.mem_cons, List.not_mem_nil, or_false] at hr
  unfold ppuRegRead
  rw [if_neg (by omega), if_neg (by omega), if_neg (by omega)]

/-- Settles O40: each port's write is its equation; the address written or reached is put in numbers. -/
theorem ppuPortWrites : Obligations.PpuPortWrites := by
  intro s v
  refine ⟨rfl, rfl, rfl, rfl, rfl, fun h => ⟨?_, _, ?_, toNat_withHighBits s.ppu.vramAddress v⟩,
    fun h => ⟨?_, _, ?_, toNat_withLowByte s.ppu.vramAddress v⟩,
    _, toNat_add_vramIncrement s.ppu.vramAddress s.ppu.control, ppuRegWrite_videoData s v⟩
  · exact if_neg (Bool.eq_false_iff.1 h)
  · exact if_neg (Bool.eq_false_iff.1 h)
  · exact if_pos h
  · exact if_pos h

/-- Settles O41: each port's read is its equation; port 7 reads a palette byte at once, any other through `readBuffer`. -/
theorem ppuPortReads : Obligations.PpuPortReads := by
  intro s
  exact ⟨rfl, rfl, ppuRegRead_writeOnly s, _, toNat_add_vramIncrement s.ppu.vramAddress s.ppu.control, fun h => if_pos h,
    fun h => if_neg h.not_ge⟩

/-! ## The frame's boundaries -/

/-- Below the budget the frame goes on (R281). -/
theorem closeStep_below {s : State} (h : s.seq.acc + s.cycles < s.params.cyclesPerFrame) :
    closeStep s = { s with seq := { running := true, acc := s.seq.acc + s.cycles } } := if_pos h

/-- At the budget the frame ends; rendering does not see the sequencer (R281, R282). -/
theorem closeStep_atBudget {s : State} (h : s.params.cyclesPerFrame ≤ s.seq.acc + s.cycles) :
    closeStep s = { s with
      ppu := { s.ppu with status := s.ppu.status ||| 0x80, frameBuffer := (renderFrame s).ppu.frameBuffer },
      nmiPending := s.nmiPending || s.ppu.control.getLsbD 7, seq := .idle } := by
  rw [closeStep, if_neg h.not_gt, endFrame_eq, renderFrame_setSeq]
  rfl

/-- Settles O53: the equations of `startFrame` and `closeStep`. -/
theorem frameBoundary : Obligations.FrameBoundary := fun _ =>
  ⟨startFrame_running, startFrame_idle, closeStep_below, closeStep_atBudget⟩

end Sys2Proof.Proofs
end

section
/-!
The pixels of a frame (O48 to O51). The renderer's colour functions in the masks and shifts of R223 to R235; the sprite pass
as a search for the lowest sprite that writes; the spec's loops as a fold of writes, sprite by sprite.
-/

namespace Sys2Proof.Proofs

open Sys2Proof.Machine Sys2Proof.Laws

/-! ## Bits and fields by masks and shifts -/

theorem bitNat_masks (b : Byte) (k : Nat) : bitNat b k = (b.toNat >>> k) &&& 1 := by
  rw [bitNat, BitVec.getLsbD, Nat.toNat_testBit, Nat.and_one_is_mod, Nat.shiftRight_eq_div_pow]

theorem getLsbD_iff_masks (b : Byte) (k : Nat) : b.getLsbD k = true ↔ (b.toNat >>> k) &&& 1 = 1 := by
  rw [← bitNat_masks, bitNat, Bool.toNat_eq_one]

theorem two_mul_add_eq_or (a : Nat) {b : Nat} (h : b < 2) : 2 * a + b = a <<< 1 ||| b := by
  rw [← Nat.shiftLeft_add_eq_or_of_lt (i := 1) h, Nat.shiftLeft_eq, Nat.mul_comm]

/-- R226, R233: plane 1 gives the high bit of the index. -/
theorem planeIndex_masks (p0 p1 : Byte) (bit : Nat) :
    planeIndex p0 p1 bit = (((p1.toNat >>> bit) &&& 1) <<< 1) ||| ((p0.toNat >>> bit) &&& 1) := by
  rw [planeIndex, two_mul_add_eq_or _ (b := bitNat p0 bit) (Bool.toNat_lt _), bitNat_masks, bitNat_masks]

/-! ## The mask gate (R221) -/

theorem gate_open {gate bit : Bool} (h : gate = false ∨ bit = true) : ¬ (gate && !bit) = true := by
  rcases h with rfl | rfl
  · exact Bool.false_ne_true
  · rw [Bool.not_true, Bool.and_false]
    exact Bool.false_ne_true

theorem gate_closed {gate bit : Bool} (hgate : gate = true) (hbit : bit = false) : (gate && !bit) = true := by
  rw [hgate, hbit]
  rfl

/-! ## The background (R223 to R227) -/

/-- R223: the page's bits, each the base selection plus the scroll overflow. -/
theorem bgPage_masks (s : State) (sx sy : Nat) : bgPage s sx sy =
    ((((s.ppu.control.toNat >>> 1) &&& 1) + sy / 240) &&& 1) <<< 1 |||
      (((s.ppu.control.toNat &&& 1) + (sx >>> 8)) &&& 1) := by
  rw [bgPage, two_mul_add_eq_or _ (Nat.mod_lt _ (by decide)), bitNat_masks, bitNat_masks, ← Nat.and_one_is_mod,
    ← Nat.and_one_is_mod, Nat.shiftRight_eq_div_pow sx 8]
  rfl

/-- R225: the quadrant's place in the attribute byte. -/
theorem quadrantShift_masks (tx ty : Nat) : ((ty &&& 2) <<< 1) ||| (tx &&& 2) = ty / 2 % 2 * 4 + tx / 2 % 2 * 2 := by
  have hbit (n : Nat) : n &&& 2 = n / 2 % 2 * 2 := by
    have hpow := Nat.and_two_pow n 1
    rwa [Nat.toNat_testBit] at hpow
  have hhigh : (ty / 2 % 2 * 2) <<< 1 = (ty / 2 % 2) <<< 2 := by
    rw [Nat.shiftLeft_eq, Nat.mul_assoc, Nat.shiftLeft_eq]
  have hlow : tx / 2 % 2 * 2 < 2 ^ 2 := by omega
  rw [hbit, hbit, hhigh, ← Nat.shiftLeft_add_eq_or_of_lt hlow, Nat.shiftLeft_eq]

theorem bgPalette_masks (s : State) (page tx ty : Nat) : bgPalette s page tx ty =
    ((ppuRead s (pageAddr page (0x3C0 + (ty >>> 2) * 8 + (tx >>> 2)))).toNat >>>
      (((ty &&& 2) <<< 1) ||| (tx &&& 2))) &&& 3 := by
  rw [quadrantShift_masks, Nat.and_two_pow_sub_one_eq_mod _ 2, Nat.shiftRight_eq_div_pow, Nat.shiftRight_eq_div_pow,
    Nat.shiftRight_eq_div_pow]
  rfl

theorem bgTable_masks (s : State) : bgTable s = if (s.ppu.control.toNat >>> 4) &&& 1 = 1 then 0x1000 else 0x0000 := by
  simp only [bgTable, getLsbD_iff_masks]

/-- R227: colour index 0 is palette byte 0. -/
theorem bgPixel_eq (s : State) (x y : Nat) :
    let sx := x + s.ppu.scrollX.toNat
    let sy := y + s.ppu.scrollY.toNat
    let page := bgPage s sx sy
    let ci := bgIndex s page (sx % 256) (sy % 240)
    bgPixel s x y = s.ppu.paletteRAM.read
      (if ci = 0 then 0 else palIndex (0x3F00 + bgPalette s page (sx % 256 / 8) (sy % 240 / 8) * 4 + ci)) :=
  (apply_ite s.ppu.paletteRAM.read _ _ _).symm

/-- Settles O48: page, tile, palette and colour index in the rule's masks; the gate decides between the two bytes. -/
theorem backgroundPixel : Obligations.BackgroundPixel := by
  intro s x y control sx sy ntx nty px py base tx ty tile attr shift palq pt row p0 p1 bit ci
  have hpage : bgPage s sx sy = (nty <<< 1) ||| ntx := bgPage_masks s sx sy
  have hpx : sx % 256 = px := (Nat.and_two_pow_sub_one_eq_mod sx 8).symm
  have htx : px / 8 = tx := (Nat.shiftRight_eq_div_pow px 3).symm
  have hty : py / 8 = ty := (Nat.shiftRight_eq_div_pow py 3).symm
  have haddr (off : Nat) : pageAddr (bgPage s sx sy) off = BitVec.ofNat 14 (base + off) := by rw [hpage]; rfl
  have hpal : bgPalette s (bgPage s sx sy) tx ty = palq := by
    rw [bgPalette_masks, haddr, ← Nat.add_assoc, ← Nat.add_assoc]
  have htile : (bgTile s (bgPage s sx sy) tx ty).toNat = tile := by
    rw [bgTile, haddr, ← Nat.add_assoc]
  have hci : bgIndex s (bgPage s sx sy) px py = ci := by
    rw [bgIndex, bgTable_masks, htx, hty, htile, planeIndex_masks, ← portMask_eq_mod, ← portMask_eq_mod]
    rfl
  refine ⟨fun hopen => ?_, fun hgate hmask => if_pos (gate_closed hgate hmask)⟩
  have hpass : bgPass s x y = bgPixel s x y := if_neg (gate_open hopen)
  rw [hpass, bgPixel_eq, hpx, htx, hty, hpal, hci]

/-! ## A sprite's pixel (R230 to R235) -/

theorem spriteHeight_masks (s : State) : spriteHeight s = if (s.ppu.control.toNat >>> 5) &&& 1 = 1 then 16 else 8 := by
  simp only [spriteHeight, getLsbD_iff_masks]

/-- R232: pattern table and tile, the tile's own bit 0 choosing the table of a sprite of 16 rows. -/
theorem spritePatternAt_masks (s : State) (i rr : Nat) : spritePatternAt s i rr =
    (if spriteHeight s = 8 then (if (s.ppu.control.toNat >>> 3) &&& 1 = 1 then 0x1000 else 0x0000)
      else (if (spriteByte s i 1).toNat &&& 1 = 1 then 0x1000 else 0x0000)) +
    (if spriteHeight s = 8 then (spriteByte s i 1).toNat
      else (((spriteByte s i 1).toNat &&& 0xFE) + (rr >>> 3)) &&& 0xFF) * 16 + (rr &&& 7) := by
  have hrow : rr >>> 3 = rr / 8 := Nat.shiftRight_eq_div_pow rr 3
  have hbyte (n : Nat) : n &&& 0xFF = n % 256 := Nat.and_two_pow_sub_one_eq_mod n 8
  rw [spritePatternAt, hrow, hbyte, portMask_eq_mod]
  split
  · simp only [getLsbD_iff_masks]
  · simp only [getLsbD_iff_masks, BitVec.toNat_and, Nat.shiftRight_zero]
    rfl

theorem spriteIndex_masks (s : State) (i r c : Nat) :
    let attr := (spriteByte s i 2).toNat
    let at0 := spritePatternAt s i (if (attr >>> 7) &&& 1 = 1 then spriteHeight s - 1 - r else r)
    let bit := 7 - if (attr >>> 6) &&& 1 = 1 then 7 - c else c
    spriteIndex s i r c =
      ((((chrByte s (at0 + 8)).toNat >>> bit) &&& 1) <<< 1) ||| (((chrByte s at0).toNat >>> bit) &&& 1) := by
  simp only [spriteIndex, planeIndex_masks, getLsbD_iff_masks]

/-- R234: a transparent pixel, and a sprite behind the background, write nothing. -/
theorem spriteDraws_masks (s : State) (i r c : Nat) : spriteDraws s i r c =
    if spriteIndex s i r c = 0 ∨ ((spriteByte s i 2).toNat >>> 5) &&& 1 = 1 then none
    else some (s.ppu.paletteRAM.read (palIndex (0x3F10 + ((spriteByte s i 2).toNat &&& 3) * 4 + spriteIndex s i r c))) := by
  have hlow (n : Nat) : n &&& 3 = n % 4 := Nat.and_two_pow_sub_one_eq_mod n 2
  simp only [spriteDraws, spriteColour, Bool.or_eq_true, decide_eq_true_eq, getLsbD_iff_masks, hlow]

/-- Settles O49: height, pattern row and colour index in the rule's masks. -/
theorem spritePixelColour : Obligations.SpritePixelColour := by
  intro s i r c _ _ tile attr h rr pt t p0 p1 cc bit ci
  have hh : spriteHeight s = h := spriteHeight_masks s
  have hci : spriteIndex s i r c = ci := by
    rw [spriteIndex_masks, spritePatternAt_masks, hh]
    rfl
  rw [spriteDraws_masks, hci]
  exact ⟨fun hnone => if_pos hnone, fun hcolour hfront => if_neg (not_or.2 ⟨hcolour, hfront.trans_ne Nat.zero_ne_one⟩)⟩

/-! ## The sprite pass -/

/-- R229: drawing from the last sprite to the first leaves what the first sprite that writes has written. -/
theorem foldl_reverse_getD {α β : Type} (f : α → Option β) (l : List α) (b : β) :
    l.reverse.foldl (fun c i => (f i).getD c) b = (l.findSome? f).getD b := by
  rw [List.foldl_reverse]
  induction l with
  | nil => rfl
  | cons i l ih =>
    rw [List.foldr_cons, ih, List.findSome?_cons]
    cases f i <;> rfl

theorem findSome?_range_of_lowest {β : Type} {f : Nat → Option β} {n i : Nat} {v : β} (hi : i < n) (hv : f i = some v)
    (hlow : ∀ j < i, f j = none) : (List.range n).findSome? f = some v := by
  have hlen : i < (List.range n).length := by rwa [List.length_range]
  have hsplit : List.range n = List.range i ++ i :: (List.range n).drop (i + 1) := by
    conv_lhs => rw [← List.take_append_drop i (List.range n), List.take_range, Nat.min_eq_left hi.le,
      List.drop_eq_getElem_cons hlen, List.getElem_range]
  exact List.findSome?_eq_some_iff.2 ⟨_, i, _, hsplit, hv, fun j hj => hlow j (List.mem_range.1 hj)⟩

/-- R221: the pass is skipped where the gate is closed. -/
theorem spritePass_gateClosed {s : State} (hgate : s.params.maskGatesRender = true) (hmask : s.ppu.mask.getLsbD 4 = false)
    (x y : Nat) (bg : Byte) : spritePass s x y bg = bg :=
  if_pos (gate_closed hgate hmask)

theorem spritePass_gateOpen {s : State} (hgate : s.params.maskGatesRender = false ∨ s.ppu.mask.getLsbD 4 = true)
    (x y : Nat) (bg : Byte) :
    spritePass s x y bg = spriteOrder.foldl (fun c i => (spritePixel s i x y).getD c) bg :=
  if_neg (gate_open hgate)

/-- Settles O50: the sprite's rectangle is its definition; the pass is the search for the lowest sprite that writes. -/
theorem lowestSpriteWins : Obligations.LowestSpriteWins := by
  refine ⟨fun _ _ _ _ => rfl, fun s x y bg =>
    ⟨fun hgate hmask => spritePass_gateClosed hgate hmask x y bg, fun hopen => ?_⟩⟩
  have hpass : spritePass s x y bg = ((List.range 64).findSome? fun i => spritePixel s i x y).getD bg :=
    (spritePass_gateOpen hopen x y bg).trans (foldl_reverse_getD _ _ bg)
  refine ⟨fun hnone => ?_, fun i v hi hv hlow => ?_⟩
  · rw [hpass, List.findSome?_eq_none_iff.2 fun i hi => hnone i (List.mem_range.1 hi), Option.getD_none]
  · rw [hpass, findSome?_range_of_lowest hi hv hlow, Option.getD_some]

/-! ## The spec's loops -/

/-- The loops' write to a frame: a later write covers an earlier one (R229, R233). -/
def writePixel (frame : Nat × Nat → Byte) (w : Nat × Nat × Byte) : Nat × Nat → Byte :=
  Function.update frame (w.1, w.2.1) w.2.2

/-- If a list writes at a pixel what `o` says, and nothing else there, the pixel then holds that. -/
theorem foldl_writePixel (x y : Nat) (frame : Nat × Nat → Byte) {o : Option Byte} (ws : List (Nat × Nat × Byte))
    (h : ∀ v, (x, y, v) ∈ ws ↔ o = some v) : ws.foldl writePixel frame (x, y) = o.getD (frame (x, y)) := by
  induction ws using List.reverseRecOn with
  | nil =>
    have hnone : o = none := Option.eq_none_iff_forall_ne_some.2 fun v hv => List.not_mem_nil ((h v).2 hv)
    rw [hnone]
    rfl
  | append_singleton ws w ih =>
    obtain ⟨wx, wy, wv⟩ := w
    rw [List.foldl_append, List.foldl_cons, List.foldl_nil, writePixel, Function.update_apply]
    split
    next hat =>
      obtain ⟨rfl, rfl⟩ := Prod.mk.inj hat
      rw [(h wv).1 List.mem_concat_self]
      rfl
    next hat =>
      refine ih fun v => (or_iff_left fun hv => hat ?_).symm.trans (List.mem_append.symm.trans (h v))
      cases List.mem_singleton.1 hv
      rfl

/-- What the loops write for sprite `i` (R231, R233): the rows and columns of the frame, in order. -/
def spriteWritesOf (s : State) (i : Nat) : List (Nat × Nat × Byte) :=
  (List.range (spriteHeight s)).flatMap fun r =>
    if 240 ≤ spriteTop s i + r then []
    else (List.range 8).filterMap fun c =>
      if 256 ≤ (spriteByte s i 3).toNat + c then none
      else (spriteDraws s i r c).map fun v => ((spriteByte s i 3).toNat + c, spriteTop s i + r, v)

theorem spriteWrites_eq (s : State) : spriteWrites s = spriteOrder.flatMap (spriteWritesOf s) := rfl

/-- R231, R233: a sprite's pixels by its rows and columns. -/
theorem spritePixel_eq_some_iff (s : State) (i x y : Nat) (v : Byte) : spritePixel s i x y = some v ↔
    ∃ r c, r < spriteHeight s ∧ c < 8 ∧ (spriteByte s i 3).toNat + c = x ∧ spriteTop s i + r = y ∧
      spriteDraws s i r c = some v := by
  rw [spritePixel, Option.ite_none_right_eq_some]
  constructor
  · rintro ⟨⟨htop, hbottom, hleft, hright⟩, hdraws⟩
    exact ⟨_, _, by omega, by omega, by omega, by omega, hdraws⟩
  · rintro ⟨r, c, hr, hc, rfl, rfl, hdraws⟩
    refine ⟨by omega, ?_⟩
    rwa [Nat.add_sub_cancel_left, Nat.add_sub_cancel_left]

/-- R231, R233: the loops write for a sprite exactly its pixels within the frame. -/
theorem mem_spriteWritesOf (s : State) (i x y : Nat) (v : Byte) :
    (x, y, v) ∈ spriteWritesOf s i ↔ x < 256 ∧ y < 240 ∧ spritePixel s i x y = some v := by
  rw [spritePixel_eq_some_iff, spriteWritesOf, List.mem_flatMap]
  constructor
  · rintro ⟨r, hr, hrow⟩
    split at hrow
    next => exact absurd hrow List.not_mem_nil
    next htop =>
      obtain ⟨c, hc, hcol⟩ := List.mem_filterMap.1 hrow
      split at hcol
      next => cases hcol
      next hleft =>
        obtain ⟨_, hdraws, hw⟩ := Option.map_eq_some_iff.1 hcol
        cases hw
        exact ⟨not_le.1 hleft, not_le.1 htop, r, c, List.mem_range.1 hr, List.mem_range.1 hc, rfl, rfl, hdraws⟩
  · rintro ⟨hx, hy, r, c, hr, hc, rfl, rfl, hdraws⟩
    refine ⟨r, List.mem_range.2 hr, ?_⟩
    rw [if_neg hy.not_ge]
    refine List.mem_filterMap.2 ⟨c, List.mem_range.2 hc, ?_⟩
    rw [if_neg hx.not_ge, hdraws]
    rfl

theorem foldl_spriteWrites (s : State) {x y : Nat} (hx : x < 256) (hy : y < 240) (frame : Nat × Nat → Byte) :
    (spriteWrites s).foldl writePixel frame (x, y) =
      spriteOrder.foldl (fun c i => (spritePixel s i x y).getD c) (frame (x, y)) := by
  have hsprite (i : Nat) (frame : Nat × Nat → Byte) :
      (spriteWritesOf s i).foldl writePixel frame (x, y) = (spritePixel s i x y).getD (frame (x, y)) :=
    foldl_writePixel x y frame _ fun v => by rw [mem_spriteWritesOf, and_iff_right hx, and_iff_right hy]
  rw [spriteWrites_eq, List.foldl_flatMap]
  exact (List.foldl_hom (fun frame : Nat × Nat → Byte => frame (x, y)) fun frame i => (hsprite i frame).symm).symm

/-- Settles O51: each sprite's writes at a pixel are what `spritePixel` says, so the loops' fold is the pixel's own. -/
theorem spritePassRefinesLoops : Obligations.SpritePassRefinesLoops := by
  refine fun s => ⟨fun hopen => ⟨fun w hw => ?_, fun x y hx hy => ?_⟩, fun hgate hmask x y _ _ =>
    spritePass_gateClosed hgate hmask x y _⟩
  · rw [spriteWrites_eq] at hw
    obtain ⟨i, -, hi⟩ := List.mem_flatMap.1 hw
    obtain ⟨hx, hy, -⟩ := (mem_spriteWritesOf s i w.1 w.2.1 w.2.2).1 hi
    exact ⟨hx, hy⟩
  · rw [renderedByte, spritePass_gateOpen hopen]
    exact (foldl_spriteWrites s hx hy fun q => bgPass s q.1 q.2).symm

end Sys2Proof.Proofs
end

section
/-!
The joypad (O45, O46). A read of `$4016` answers the bit at `shiftIndex` and changes that index alone, so the state after
`k` polls is known by its index: `k` up to 8 while the strobe is low, 0 while it is high.
-/

namespace Sys2Proof.Proofs

open Sys2Proof.Machine Sys2Proof.Laws

/-! ## Writes and reads -/

theorem joypadWrite_odd (s : State) {v : Byte} (h : v.toNat % 2 = 1) :
    joypadWrite s v = { s with joypad := { s.joypad with strobe := true, shiftIndex := 0 } } :=
  if_pos ((getLsbD_zero_eq_odd v).trans (decide_eq_true h))

theorem joypadWrite_even (s : State) {v : Byte} (h : v.toNat % 2 = 0) :
    joypadWrite s v = { s with joypad := { s.joypad with strobe := false } } := by
  have hbit : v.getLsbD 0 = false := (getLsbD_zero_eq_odd v).trans (decide_eq_false (by omega))
  exact if_neg (by rw [hbit]; exact Bool.false_ne_true)

theorem currentBit_eq_false_iff (j : Joypad) :
    j.currentBit = false ↔ j.shiftIndex.val < 8 ∧ j.buttonMask.getLsbD j.shiftIndex.val = false := by
  unfold Joypad.currentBit
  split
  next hlt => exact (and_iff_right hlt).symm
  next hge => exact iff_of_false Bool.noConfusion fun h => hge h.1

theorem advanced_of_counting {j : Joypad} (hstrobe : j.strobe = false) (hindex : j.shiftIndex.val < 8) :
    j.advanced.val = j.shiftIndex.val + 1 := by
  rw [Joypad.advanced, dif_pos ⟨hstrobe, hindex⟩]

theorem advanced_of_held {j : Joypad} (h : j.strobe = true ∨ j.shiftIndex.val = 8) : j.advanced = j.shiftIndex := by
  refine dif_neg fun ⟨hstrobe, hindex⟩ => ?_
  rcases h with h | h
  · exact Bool.noConfusion (h.symm.trans hstrobe)
  · omega

/-- `JoypadRead()` whole: `$40` for a button that is up, else `$41` (R253). -/
theorem joypadRead_eq (s : State) : joypadRead s =
    (if s.joypad.shiftIndex.val < 8 ∧ s.joypad.buttonMask.getLsbD s.joypad.shiftIndex.val = false then 0x40 else 0x41,
      { s with joypad := { s.joypad with shiftIndex := s.joypad.advanced } }) := by
  refine Prod.ext ?_ rfl
  simp only [joypadRead, ← currentBit_eq_false_iff]
  cases s.joypad.currentBit <;> rfl

/-! ## Polling -/

/-- The machine after one read of `$4016`. -/
abbrev polled (s : State) : State := (memRead s 0x4016).2

theorem memRead_joypad (s : State) : memRead s 0x4016 = joypadRead s := memRead_at_joypad s rfl

theorem memWrite_joypad (s : State) (v : Byte) : memWrite s 0x4016 v = joypadWrite s v := memWrite_at_joypad s v rfl

theorem polled_joypad (s : State) : (polled s).joypad = { s.joypad with shiftIndex := s.joypad.advanced } := by
  rw [polled, memRead_joypad, joypadRead_eq]

/-- While the strobe is high a poll changes nothing. -/
theorem polled_of_strobe {s : State} (h : s.joypad.strobe = true) : polled s = s := by
  rw [polled, memRead_joypad, joypadRead_eq, advanced_of_held (.inl h)]

/-- The index after `k` polls with the strobe low: one more each time, up to 8. -/
def indexAfterPolls (k : Nat) : Fin 9 := ⟨min k 8, by omega⟩

theorem advanced_indexAfterPolls {j : Joypad} (hstrobe : j.strobe = false) {k : Nat}
    (hindex : j.shiftIndex = indexAfterPolls k) : j.advanced = indexAfterPolls (k + 1) := by
  have hval : j.shiftIndex.val = min k 8 := congrArg Fin.val hindex
  refine Fin.ext (?_ : j.advanced.val = min (k + 1) 8)
  by_cases hk : k < 8
  · rw [advanced_of_counting hstrobe (by omega)]
    omega
  · rw [advanced_of_held (.inr (by omega))]
    omega

theorem iterate_polled_joypad {s : State} (hstrobe : s.joypad.strobe = false) (hindex : s.joypad.shiftIndex = 0) (k : Nat) :
    (polled^[k] s).joypad = { s.joypad with shiftIndex := indexAfterPolls k } := by
  induction k with
  | zero => exact congrArg (fun i => { s.joypad with shiftIndex := i }) hindex
  | succ k ih =>
    have hnext := advanced_indexAfterPolls (j := { s.joypad with shiftIndex := indexAfterPolls k }) hstrobe rfl
    rw [Function.iterate_succ_apply', polled_joypad, ih, hnext]

/-- Settles O45: a write sets the strobe, a read is `joypadRead_eq`, and the index after `k` polls gives the bit that the next
one answers. -/
theorem joypadAccess : Obligations.JoypadAccess := by
  refine ⟨fun s v => ⟨joypadWrite_odd s, joypadWrite_even s, s.joypad.advanced, joypadRead_eq s, advanced_of_counting,
    advanced_of_held⟩, fun s k => ⟨?_, ?_⟩⟩
  · rw [memWrite_joypad s, memWrite_joypad, joypadWrite_odd s (by decide), joypadWrite_even _ (by decide), memRead_joypad,
      joypadRead_eq, iterate_polled_joypad rfl rfl]
    by_cases hk : k < 8
    · simp only [indexAfterPolls, Nat.min_eq_left hk.le]
    · have hend : ¬ (indexAfterPolls k).val < 8 := not_lt.2 (le_min (not_lt.1 hk) le_rfl)
      simp only [hend, hk, false_and, if_false]
  · rw [memWrite_joypad, joypadWrite_odd s (by decide), memRead_joypad, joypadRead_eq,
      Function.iterate_fixed (f := polled) (polled_of_strobe rfl)]
    simp

/-! ## Buttons -/

/-- R251: the button mask after `setButton`, bit by bit. -/
theorem getLsbD_setButton (j : Joypad) (k : Fin 8) (pressed : Bool) {i : Nat} (hi : i < 8) :
    (j.setButton k pressed).buttonMask.getLsbD i = if i = k.val then pressed else j.buttonMask.getLsbD i := by
  have hbit : (1#8 <<< k.val).getLsbD i = decide (i = k.val) := by
    rw [← BitVec.twoPow_eq, BitVec.getLsbD_twoPow, decide_eq_true k.isLt, Bool.true_and, decide_eq_decide]
    exact eq_comm
  cases pressed with
  | true =>
    show (j.buttonMask ||| 1#8 <<< k.val).getLsbD i = _
    rw [BitVec.getLsbD_or, hbit]
    by_cases hik : i = k.val <;> simp [hik]
  | false =>
    show (j.buttonMask &&& ~~~(1#8 <<< k.val)).getLsbD i = _
    rw [BitVec.getLsbD_and, BitVec.getLsbD_not, hbit, decide_eq_true hi]
    by_cases hik : i = k.val <;> simp [hik]

/-- Settles O46: the mask is the one thing that `setButton` writes. -/
theorem buttonEvents : Obligations.ButtonEvents := fun k pressed s =>
  ⟨(s.joypad.setButton k pressed).buttonMask, rfl, (getLsbD_setButton _ k pressed k.isLt).trans (if_pos rfl),
    fun _ hj hne => (getLsbD_setButton _ k pressed hj).trans (if_neg hne)⟩

end Sys2Proof.Proofs
end

section
/-!
The CPU's step and the exceptions (O6, O28, O29). An entry pushes a frame of three bytes, and RTI pulls it again: after any
entry the stack holds `pushedFrame`, which is all that RTI reads.
-/

namespace Sys2Proof.Proofs

open Sys2Proof Sys2Proof.Machine Sys2Proof.Laws

/-! ## What a step runs -/

theorem opcodeLength_opcode (i : Instr) : opcodeLength i.opcode = i.length :=
  (encode_length i).symm.trans (Nat.add_comm ..)

/-- R72: a fetch moves `PC` past the instruction that its bytes decode to. -/
theorem fetchInstr_pc_length (s : State) :
    (fetchInstr s).2.pc = s.pc + BitVec.ofNat 16 (instrOfBytes (fetchInstr s).1).length := by
  have hop : (instrOfBytes (fetchInstr s).1).opcode = (memRead s s.pc).1 := (decodeBytes_spec _ _ _).1
  rw [← opcodeLength_opcode, hop, fetchInstr_pc]

/-- Starting a frame touches neither the CPU nor the cartridge (R281). -/
theorem startFrame_cpu (s : State) : (startFrame s).pc = s.pc ∧ (startFrame s).nmiPending = s.nmiPending ∧
    (startFrame s).irqPending = s.irqPending ∧ (startFrame s).p = s.p := by
  cases h : s.seq.running
  · rw [startFrame_idle h]
    exact ⟨rfl, rfl, rfl, rfl⟩
  · rw [startFrame_running h]
    exact ⟨rfl, rfl, rfl, rfl⟩

/-- Settles O6: a machine's step is a CPU step between `startFrame` and `closeStep`, and the CPU runs what the fetched bytes
decode to. -/
theorem stepRunsDecodedInstruction : Obligations.StepRunsDecodedInstruction := by
  refine ⟨fun s hc => ?_, fun s t i hc hn hi hdecode _ hexec => ?_⟩
  · obtain ⟨t, hstep, -⟩ := cpuStep_spec (startFrame s)
    exact ⟨t, hstep, step_next hc hstep⟩
  · obtain ⟨hpc, hnmi, hirq, hp⟩ := startFrame_cpu s
    rw [decode_fetchInstr] at hdecode
    obtain rfl : instrOfBytes (fetchInstr (startFrame s)).1 = i := by simpa using hdecode
    have hflag : (startFrame s).flag .I = s.flag .I := congrArg (flagOf · .I) hp
    exact ⟨hpc ▸ fetchInstr_pc_length _,
      step_next hc ((cpuStep_eq_exec (hnmi.trans hn) (by rwa [hirq, hflag])).trans hexec)⟩

/-! ## Taking an interrupt -/

/-- R295: the service of an interrupt, its latch being cleared: the frame pushed, I set, `PC` from the vector, 7 cycles. -/
theorem complete_raiseInterrupt (s : State) {vector : Word} (h : 0x8000 ≤ vector.toNat)
    (h' : 0x8000 ≤ (vector + 1).toNat) : complete 7 (raiseInterrupt vector s) = .next { s with
      ram := pushedFrame s s.pc (interruptStatus s.p), sp := s.sp - 3, p := putFlag s.p .I true,
      pc := u16 (memRead s (vector + 1)).1 (memRead s vector).1, cycles := 7 } := by
  rw [raiseInterrupt, enterException_eq _ _ _ h h']
  rfl

/-- A vector is read from program ROM, so what happens outside the cartridge does not matter to it. -/
theorem memRead_vector_congr {s t : State} (hcart : t.cart = s.cart) {a : Word} (h : 0x8000 ≤ a.toNat) :
    (memRead t a).1 = (memRead s a).1 := by
  rw [memRead_at_prgRom t h, memRead_at_prgRom s h, hcart]

theorem cpuStep_nmi {s : State} (h : s.nmiPending = true) :
    cpuStep s = complete 7 (raiseInterrupt nmiVector (s.setNmi false)) := if_pos h

theorem cpuStep_irq {s : State} (hn : s.nmiPending = false) (hi : s.irqPending = true) (hmask : s.flag .I = false) :
    cpuStep s = complete 7 (raiseInterrupt irqVector (s.setIrq false)) := by
  simp only [cpuStep, irqTaken, hn, hi, hmask, Bool.false_eq_true, Bool.not_false, Bool.and_self, if_true, if_false]

/-- Settles O28: the three branches of the CPU's step. -/
theorem interruptService : Obligations.InterruptService := by
  refine fun s => ⟨fun hn => ?_, fun hn hi hmask => ?_, cpuStep_eq_exec⟩
  · refine ⟨_, _, flagsAfter_interruptStatus _, flagsAfter_putFlag _ _ _, ?_⟩
    rw [cpuStep_nmi hn, complete_raiseInterrupt _ (by decide) (by decide),
      memRead_vector_congr (s := s) rfl (by decide), memRead_vector_congr (s := s) rfl (by decide)]
    rfl
  · refine ⟨_, _, flagsAfter_interruptStatus _, flagsAfter_putFlag _ _ _, ?_⟩
    rw [cpuStep_irq hn hi hmask, complete_raiseInterrupt _ (by decide) (by decide),
      memRead_vector_congr (s := s) rfl (by decide), memRead_vector_congr (s := s) rfl (by decide)]
    rfl

/-! ## Returning from an exception -/

/-- R298: RTI on a pushed frame: the three bytes lie at different places for every `SP`, so they are pulled as they were
pushed. -/
theorem returnFromException_of_pushedFrame {s t : State} {pc : Word} {status : Byte}
    (hram : t.ram = pushedFrame s pc status) (hsp : t.sp = s.sp - 3) :
    returnFromException t = { t with pc := pc, sp := s.sp, p := pulledStatus status } := by
  have hlow : s.sp - 3 + 1 = s.sp - 2 := by bv_omega
  have hmid : s.sp - 3 + 2 = s.sp - 1 := by bv_omega
  have hhigh : s.sp - 3 + 3 = s.sp := BitVec.sub_add_cancel ..
  have hne1 : 0x100 + (s.sp - 2).toNat ≠ 0x100 + (s.sp - 1).toNat := by bv_omega
  have hne2 : 0x100 + (s.sp - 2).toNat ≠ 0x100 + s.sp.toNat := by bv_omega
  have hne3 : 0x100 + (s.sp - 1).toNat ≠ 0x100 + s.sp.toNat := by bv_omega
  simp only [returnFromException_eq, hram, hsp, hlow, hmid, hhigh, pushedFrame, read_write_same, read_write_other _ _ hne1,
    read_write_other _ _ hne2, read_write_other _ _ hne3, u16_hi8_lo8]

theorem exec_rti_of_pushedFrame {s t : State} {pc : Word} {status : Byte} (hram : t.ram = pushedFrame s pc status)
    (hsp : t.sp = s.sp - 3) (hparams : t.params = s.params) : exec .rti t = .next { t with
      pc := pc, sp := s.sp, p := pulledStatus status, cycles := baseCount s.params 0x40 } := by
  show complete (baseCount t.params 0x40) (returnFromException t) = _
  rw [returnFromException_of_pushedFrame hram hsp, hparams]
  rfl

/-- R295: an entry through any vector, one in a device included, leaves its frame on the stack. -/
theorem raiseInterrupt_frameOnStack (vector : Word) (s : State) :
    (raiseInterrupt vector s).ram = pushedFrame s s.pc (interruptStatus s.p) ∧
    (raiseInterrupt vector s).sp = s.sp - 3 ∧ (raiseInterrupt vector s).params = s.params := by
  have hsp : s.sp - 2 - 1 = s.sp - 3 := by bv_omega
  simp only [raiseInterrupt, enterException, memRead16, pushWord_eq, push_eq, State.setFlag, pushedFrame, hsp, setPc_ram,
    setPc_sp, setPc_params, memRead_ram, memRead_sp, memRead_params, setP_ram, setP_sp, setP_params, and_self]

/-- Settles O29: after either entry the frame is on the stack, with a status byte that RTI's forced bits bring back. -/
theorem returnUndoesEntry : Obligations.ReturnUndoesEntry := by
  refine fun s => ⟨⟨_, flagsAfter_pulledStatus _, fun vector => ?_⟩,
    _, _, flagsAfter_pulledStatus _, brkOp_eq .., ?_⟩
  · obtain ⟨hram, hsp, hparams⟩ := raiseInterrupt_frameOnStack vector s
    rw [exec_rti_of_pushedFrame hram hsp hparams, pulledStatus_interruptStatus]
  · rw [← pulledStatus_softwareStatus]
    exact exec_rti_of_pushedFrame rfl rfl rfl

end Sys2Proof.Proofs
end

section
/-!
Loading an image and the reset that ends a load (O55, O56, O57). Each check of `loadImage` is one lemma, in the spec's order;
an accepted image passes them all.
-/

namespace Sys2Proof.Proofs

open Sys2Proof Sys2Proof.Machine Sys2Proof.Laws

/-! ## The checks (R264, R266, R267) -/

section Checks

variable {img : List Byte}

/-- The header's check (R264). -/
def HeaderOk (img : List Byte) : Prop := 16 ≤ img.length ∧ img.take 4 = imageMagic

theorem headerOk_iff : HeaderOk img ↔ ¬ (img.length < 16 ∨ img.take 4 ≠ imageMagic) := by
  rw [HeaderOk, not_or, not_lt, not_not]

theorem imagePrgBanks_eq_zero_iff : imagePrgBanks img = 0 ↔ img.getD 4 0 = 0 := BitVec.toNat_inj (y := 0)

theorem imageChrBanks_eq_zero_iff : imageChrBanks img = 0 ↔ img.getD 5 0 = 0 := BitVec.toNat_inj (y := 0)

theorem imageOffset_eq (img : List Byte) : imageOffset img = if (img.getD 6 0).getLsbD 2 then 528 else 16 := by
  unfold imageOffset imageByte
  split <;> rfl

theorem loadImage_badHeader (h : ¬ HeaderOk img) : loadImage img = .error .invalidHeader :=
  if_pos (by rwa [headerOk_iff, not_not] at h)

theorem loadImage_badMapper (h : HeaderOk img) (hm : imageMapper img ≠ 0) : loadImage img = .error .unsupportedMapper := by
  rw [loadImage, if_neg (headerOk_iff.1 h), if_pos hm]

theorem loadImage_noBanks (h : HeaderOk img) (hm : imageMapper img = 0) (hb : img.getD 4 0 = 0) :
    loadImage img = .error .invalidHeader := by
  rw [loadImage, if_neg (headerOk_iff.1 h), if_neg (not_not.2 hm), if_pos (imagePrgBanks_eq_zero_iff.2 hb)]

theorem loadImage_long (h : HeaderOk img) (hm : imageMapper img = 0) (hb : img.getD 4 0 ≠ 0) : loadImage img =
    if img.length < imageNeed img then .error .truncatedFile else .ok (imageCartridge img) := by
  rw [loadImage, if_neg (headerOk_iff.1 h), if_neg (not_not.2 hm), if_neg (mt imagePrgBanks_eq_zero_iff.1 hb)]

theorem loadRom_error {e : LoadError} (h : loadImage img = .error e) (s : State) : loadRom img s = (.failed e, s) := by
  rw [loadRom_eq, h]

theorem loadRom_ok {c : Cartridge} (h : loadImage img = .ok c) (s : State) :
    loadRom img s = (.loaded (imageInfo img), attachAndReset c s) := by
  rw [loadRom_eq, h]

end Checks

theorem imageNeed_eq (img : List Byte) : imageNeed img = (if (img.getD 6 0).getLsbD 2 then 528 else 16) +
    (img.getD 4 0).toNat * 16384 + (img.getD 5 0).toNat * 8192 := by
  rw [imageNeed, imageOffset_eq]
  rfl

/-- Settles O55: the four checks in their order. -/
theorem loadRefusals : Obligations.LoadRefusals := fun img s =>
  ⟨fun h => loadRom_error (loadImage_badHeader h) s,
    fun h hm => loadRom_error (loadImage_badMapper h hm) s,
    fun h hm hb => loadRom_error (loadImage_noBanks h hm hb) s,
    fun h hm hb hlen => loadRom_error ((loadImage_long h hm hb).trans (if_pos ((imageNeed_eq img).symm ▸ hlen))) s⟩

/-! ## The cartridge of an accepted image (R265, R268) -/

/-- A memory made of a stretch of an image reads as that stretch. -/
theorem read_ofBytes_slice (img : List Byte) (start : Nat) {n k : Nat} (hk : k < n) :
    (Memory.ofBytes ((img.drop start).take n) 0).read k = img.getD (start + k) 0 := by
  simp only [read_ofBytes, Nat.zero_le, if_true, Nat.sub_zero, List.getD_eq_getElem?_getD, List.getElem?_take_of_lt hk,
    List.getElem?_drop]

theorem imageCartridge_chr_read (img : List Byte) {k : Nat} (hk : k < 8192) : (imageCartridge img).chr.read k =
    if img.getD 5 0 = 0 then 0 else img.getD (imageOffset img + imagePrgBanks img * 16384 + k) 0 := by
  simp only [imageCartridge, ← imageChrBanks_eq_zero_iff]
  split
  · rfl
  · exact read_ofBytes_slice img _ hk

/-- Settles O56: the cartridge is `imageCartridge`, and the rest is the reset that ends a load. -/
theorem loadBuildsAndResets : Obligations.LoadBuildsAndResets := by
  intro img s offset size hlen hmagic hmapper hbanks hneed
  have hoffset : imageOffset img = offset := imageOffset_eq img
  have hload : loadImage img = .ok (imageCartridge img) :=
    (loadImage_long ⟨hlen, hmagic⟩ hmapper hbanks).trans (if_neg ((imageNeed_eq img).symm ▸ hneed.not_gt))
  refine ⟨imageInfo img, imageCartridge img, ?_, rfl, fun k hk => ?_, fun k hk => ?_, rfl,
    decide_eq_decide.2 imageChrBanks_eq_zero_iff, hmapper, rfl, rfl, hmapper, fun hchr => ?_⟩
  · rw [loadRom_ok hload, attachAndReset_eq]
    rfl
  · rw [← hoffset]
    exact read_ofBytes_slice img _ hk
  · rw [← hoffset]
    exact imageCartridge_chr_read img hk
  · exact if_pos (congrArg BitVec.toNat hchr)

/-! ## The state after reset (R321) -/

theorem ppuRegRead_reset (r : Nat) : (ppuRegRead State.reset r).1 = 0 := by
  unfold ppuRegRead
  repeat' split
  all_goals rfl

/-- Below program ROM every address but the joypad's two reads 0: every memory and register behind it is clear. -/
theorem memRead_reset {a : Word} (h : a.toNat < 0x8000) (h6 : a ≠ 0x4016) (h7 : a ≠ 0x4017) :
    (memRead State.reset a).1 = 0 := by
  have h6' : a.toNat ≠ 0x4016 := fun he => h6 (BitVec.eq_of_toNat_eq he)
  have h7' : a.toNat ≠ 0x4017 := fun he => h7 (BitVec.eq_of_toNat_eq he)
  by_cases hram : a.toNat < 0x2000
  · rw [memRead_at_ram _ hram]; rfl
  by_cases hport : a.toNat < 0x4000
  · rw [memRead_at_port _ (by omega) hport]; exact ppuRegRead_reset _
  by_cases hunmapped : a.toNat < 0x6000
  · rw [memRead_at_unmapped _ (by omega) hunmapped h6', if_neg h7']
  · rw [memRead_at_prgRam _ (by omega) h]; rfl

theorem ppuRead_reset (a : VideoAddr) : ppuRead State.reset a = 0 := by
  unfold ppuRead
  repeat' split
  all_goals rfl

theorem shownPixel_reset (x y : Nat) : shownPixel State.reset x y = Config.powerOnPixel (y * 256 + x) := rfl

/-- The vector lies in program ROM, which the blank cartridge holds as zeros (log 7). -/
theorem reset_pc : State.reset.pc = u16 (memRead State.reset 0xFFFD).1 (memRead State.reset 0xFFFC).1 := by
  rw [memRead_at_prgRom _ (by decide), memRead_at_prgRom _ (by decide)]
  rfl

/-- Settles O57: every memory is empty, so every read gives 0; the fields are those of `State.reset`. -/
theorem resetState : Obligations.ResetState :=
  ⟨rfl, rfl, rfl, rfl, rfl, by decide, reset_pc, rfl, rfl, fun _ => ⟨rfl, rfl, rfl, rfl, rfl, rfl⟩,
   fun _ => memRead_reset, ppuRead_reset, rfl, rfl, rfl, rfl, rfl, rfl, rfl, rfl, rfl, rfl, rfl, rfl, shownPixel_reset,
   rfl, rfl, rfl, rfl, rfl, rfl, rfl, rfl, fun _ => rfl, rfl, rfl, rfl⟩

end Sys2Proof.Proofs
end

section
/-!
What the host and an IRQ source do, and that the invariant outlasts it (O60).
-/

namespace Sys2Proof.Proofs

open Sys2Proof Sys2Proof.Machine Sys2Proof.Laws

/-! ## Which events there are -/

theorem hostEvent_button (k : Fin 8) (pressed : Bool) (s : State) : hostEvent (.button k pressed) s =
    if s.seq.running then none else some (.nothing, setButton k pressed s) := rfl

theorem hostEvent_load (img : List Byte) (s : State) : hostEvent (.load img) s =
    if s.seq.running then none else some (loadRom img s) := rfl

theorem hostEvent_irq (s : State) : hostEvent .irq s =
    if s.params.irqSource then some (.nothing, { s with irqPending := true }) else none := rfl

/-! ## What each leaves of the invariant -/

/-- The invariant says nothing of the joypad. -/
theorem inv_setButton {s : State} (h : s.Inv) (k : Fin 8) (pressed : Bool) : (setButton k pressed s).Inv := { h with }

/-- The invariant says nothing of the IRQ latch. -/
theorem inv_setIrq {s : State} (h : s.Inv) (v : Bool) : (s.setIrq v).Inv := { h with }

/-- The reset that ends a load makes the invariant again: the PPU's registers and the latches are clear, the status byte is
the parameter's, and the sequencer and the frame buffer stay. -/
theorem inv_attachAndReset {s : State} (h : s.Inv) {c : Cartridge} (hforms : Forms (attachAndReset c s))
    (hcart : 0 < c.prgBanks ∧ c.mapperId = 0) : (attachAndReset c s).Inv := by
  rw [attachAndReset_eq] at hforms ⊢
  exact {
    ramForm := hforms.ram
    nameTableForm := hforms.nameTable
    paletteForm := hforms.palette
    oamForm := hforms.oam
    prgRamForm := hforms.prgRam
    chrForm := hforms.chr
    prgRomForm := hforms.prgRom
    aliasedPalette := hforms.aliased
    cartridge := fun _ => hcart
    frame := h.frame
    statusBits := BitVec.zero_and
    breakClear := h.resetStatus.1
    unusedSet := h.resetStatus.2
    accBelow := h.accBelow
    accIdle := h.accIdle
    vblankHidden := fun _ => rfl
    nmiServiced := fun _ => rfl
    budget := h.budget
    resetStatus := h.resetStatus }

theorem inv_loadRom {s : State} (h : s.Inv) (img : List Byte) : (loadRom img s).2.Inv := by
  cases hload : loadImage img with
  | error e => rwa [loadRom_error hload]
  | ok c =>
    obtain ⟨rfl, hmapper, hbanks⟩ := loadImage_ok hload
    obtain ⟨hprgRam, hchr, hprgRom⟩ := imageCartridge_forms img
    rw [loadRom_ok hload]
    exact inv_attachAndReset h (attachAndReset_forms s hprgRam hchr hprgRom) ⟨Nat.pos_of_ne_zero hbanks, hmapper⟩

theorem inv_hostEvent {e : HostEvent} {s t : State} {ans : HostAnswer} (h : s.Inv)
    (hevent : hostEvent e s = some (ans, t)) : t.Inv := by
  cases e with
  | button k pressed =>
    obtain ⟨-, hsome⟩ := Option.ite_none_left_eq_some.1 hevent
    obtain ⟨-, rfl⟩ := Prod.mk.inj (Option.some.inj hsome)
    exact inv_setButton h k pressed
  | load img =>
    obtain ⟨-, hsome⟩ := Option.ite_none_left_eq_some.1 hevent
    obtain rfl : (loadRom img s).2 = t := congrArg Prod.snd (Option.some.inj hsome)
    exact inv_loadRom h img
  | irq =>
    obtain ⟨-, hsome⟩ := Option.ite_none_right_eq_some.1 hevent
    obtain ⟨-, rfl⟩ := Prod.mk.inj (Option.some.inj hsome)
    exact inv_setIrq h true

/-- Settles O60: each event by its guard, and the invariant event by event. -/
theorem hostEventsKeepInv : Obligations.HostEventsKeepInv := by
  refine ⟨fun k pressed s => ⟨fun h => ?_, fun h => ?_⟩, fun img s => ⟨fun h => ?_, fun h => ?_⟩,
    fun s => ⟨fun h => ?_, fun h => ?_⟩, fun _ _ _ _ => inv_hostEvent⟩
  · rw [hostEvent_button, h, if_neg Bool.false_ne_true]
  · rw [hostEvent_button, if_pos h]
  · rw [hostEvent_load, h, if_neg Bool.false_ne_true]
  · rw [hostEvent_load, if_pos h]
  · rw [hostEvent_irq, if_pos h]
  · rw [hostEvent_irq, h, if_neg Bool.false_ne_true]

end Sys2Proof.Proofs
end

section
/-!
Every step and frame completes, and a frame is its steps (O9, O52). No CPU step looks at the sequencer, so the loop of
`runOneFrame()`, which keeps its own accumulator, and the machine's steps, which keep it in `seq`, go through the same states
but for that field.
-/

namespace Sys2Proof.Proofs

open Sys2Proof Sys2Proof.Machine Sys2Proof.Laws

/-! ## Completion -/

theorem runOneFrame_detached {s : State} (hc : s.cartridgeAttached = false) : runOneFrame s = .next s := by
  simp only [runOneFrame, hc, Bool.false_eq_true, if_false]

theorem runOneFrame_next {s t : State} (hc : s.cartridgeAttached = true)
    (h : frameLoop s.params.cyclesPerFrame 0 (clearVBlank s) = .next t) : runOneFrame s = .next (endFrame t) := by
  simp only [runOneFrame, hc, if_true, h]

/-- One round of the loop below the budget (R281). -/
theorem frameLoop_succ {s t : State} {acc : Nat} (fuel : Nat) (hacc : acc < s.params.cyclesPerFrame)
    (h : cpuStep s = .next t) : frameLoop (fuel + 1) acc s = frameLoop fuel (acc + t.cycles) t := by
  rw [frameLoop, if_pos hacc, h]

/-- The loop ends at the budget (R281). -/
theorem frameLoop_atBudget (fuel : Nat) {s : State} {acc : Nat} (h : s.params.cyclesPerFrame ≤ acc) :
    frameLoop fuel acc s = .next s := by
  cases fuel with
  | zero => rfl
  | succ fuel => exact if_neg h.not_gt

theorem frameLoop_completes (fuel : Nat) : ∀ (acc : Nat) (s : State), ∃ t, frameLoop fuel acc s = .next t := by
  induction fuel with
  | zero => exact fun _ s => ⟨s, rfl⟩
  | succ fuel ih =>
    intro acc s
    by_cases hacc : acc < s.params.cyclesPerFrame
    · obtain ⟨t, hstep, -⟩ := cpuStep_spec s
      rw [frameLoop_succ fuel hacc hstep]
      exact ih _ t
    · exact ⟨s, frameLoop_atBudget _ (not_lt.1 hacc)⟩

theorem step_completes (s : State) : ∃ t, step s = .next t := by
  cases hc : s.cartridgeAttached
  · exact ⟨s, step_detached hc⟩
  · obtain ⟨t, hstep, -⟩ := cpuStep_spec (startFrame s)
    exact ⟨closeStep t, step_next hc hstep⟩

theorem runOneFrame_completes (s : State) : ∃ t, runOneFrame s = .next t := by
  cases hc : s.cartridgeAttached
  · exact ⟨s, runOneFrame_detached hc⟩
  · obtain ⟨t, hloop⟩ := frameLoop_completes s.params.cyclesPerFrame 0 (clearVBlank s)
    exact ⟨endFrame t, runOneFrame_next hc hloop⟩

/-- Settles O9: a CPU step always answers, and the loop of a frame is CPU steps. -/
theorem everyStepCompletes : Obligations.EveryStepCompletes := by
  refine fun s => ⟨step_completes s, ?_, runOneFrame_completes s, fun hc => ⟨step_detached hc, runOneFrame_detached hc⟩⟩
  obtain ⟨t, hstep, -, hcount, -⟩ := cpuStep_spec s
  exact ⟨t, hstep, hcount.bounds le_rfl le_rfl⟩

/-! ## The steps of one frame -/

/-- From `s`, `n` steps reach `t`, and every state between is inside the frame. -/
structure StepsToFrameEnd (n : Nat) (s t : State) : Prop where
  positive : 0 < n
  last : core.run n s = .next t
  inside : ∀ k, 0 < k → k < n → ∃ u : State, core.run k s = .next u ∧ u.seq.running = true

theorem StepsToFrameEnd.one {s t : State} (h : step s = .next t) : StepsToFrameEnd 1 s t :=
  ⟨Nat.one_pos, run_next 0 h, fun k hpos hlt => by omega⟩

theorem StepsToFrameEnd.succ {n : Nat} {s u t : State} (h : StepsToFrameEnd n u t) (hstep : step s = .next u)
    (hrunning : u.seq.running = true) : StepsToFrameEnd (n + 1) s t where
  positive := Nat.succ_pos n
  last := (run_next n hstep).trans h.last
  inside k hpos hlt := by
    obtain ⟨k, rfl⟩ := Nat.exists_eq_succ_of_ne_zero hpos.ne'
    rw [Nat.succ_eq_add_one, run_next k hstep]
    cases k with
    | zero => exact ⟨u, rfl, hrunning⟩
    | succ k => exact h.inside (k + 1) k.succ_pos (Nat.lt_of_succ_lt_succ hlt)

theorem StepsToFrameEnd.of_step_eq {n : Nat} {s s' t : State} (h : StepsToFrameEnd n s' t) (hstep : step s = step s') :
    StepsToFrameEnd n s t := by
  have hrun : ∀ k, 0 < k → core.run k s = core.run k s' := by
    intro k hpos
    obtain ⟨k, rfl⟩ := Nat.exists_eq_succ_of_ne_zero hpos.ne'
    obtain ⟨u, hu⟩ := step_completes s'
    rw [Nat.succ_eq_add_one, run_next k hu, run_next k (hstep.trans hu)]
  exact ⟨h.positive, (hrun n h.positive).trans h.last, fun k hpos hlt => hrun k hpos ▸ h.inside k hpos hlt⟩

/-- A step from a frame boundary is the step of the frame that it starts. -/
theorem step_startFrame {s : State} (hc : s.cartridgeAttached = true) (hidle : s.seq.running = false) :
    step (startFrame s) = step s := by
  have hrunning : (startFrame s).seq.running = true := by rw [startFrame_idle hidle]
  have hattached : (startFrame s).cartridgeAttached = s.cartridgeAttached := by rw [startFrame_idle hidle]
  obtain ⟨t, ht, -⟩ := cpuStep_spec (startFrame s)
  have ht' : cpuStep (startFrame (startFrame s)) = .next t := by rw [startFrame_running hrunning, ht]
  rw [step_next hc ht, step_next (hattached.trans hc) ht']

/-- R281: a step within a frame, on the state that the loop has between frames. -/
theorem step_within {s t : State} (hc : s.cartridgeAttached = true) (acc : Nat) (h : cpuStep s = .next t) :
    step (s.setSeq ⟨true, acc⟩) = .next (closeStep (t.setSeq ⟨true, acc⟩)) :=
  step_next hc (cpuStep_ignoresSeq s t ⟨true, acc⟩ h)

theorem setSeq_eq_self {s : State} {q : Sequencer} (h : s.seq = q) : s.setSeq q = s := by subst h; rfl

theorem endFrame_seq (s : State) : (endFrame s).seq = s.seq := by rw [endFrame_eq]

/-- The loop's rounds, as steps of the machine. -/
theorem frameLoop_steps (fuel : Nat) : ∀ (acc : Nat) (s : State), s.cartridgeAttached = true → s.seq = .idle →
    (∀ op, 0 < baseCount s.params op) → acc < s.params.cyclesPerFrame → s.params.cyclesPerFrame ≤ acc + fuel →
    ∃ n t, frameLoop fuel acc s = .next t ∧ t.seq = .idle ∧
      StepsToFrameEnd n (s.setSeq ⟨true, acc⟩) (endFrame t) := by
  induction fuel with
  | zero => intro acc s _ _ _ hacc hfuel; omega
  | succ fuel ih =>
    intro acc s hc hidle hcounts hacc hfuel
    obtain ⟨t, hstep, hframe, hcount, -⟩ := cpuStep_spec s
    have hidle' : t.seq = .idle := hframe.seq.trans hidle
    have hpos : 0 < t.cycles := by
      obtain ⟨op, hop⟩ | hbounds := hcount
      · exact hop ▸ hcounts op
      · omega
    have hwithin := step_within hc acc hstep
    rw [frameLoop_succ fuel hacc hstep]
    by_cases hnext : acc + t.cycles < t.params.cyclesPerFrame
    · have hclose : closeStep (t.setSeq ⟨true, acc⟩) = t.setSeq ⟨true, acc + t.cycles⟩ := closeStep_below hnext
      rw [hclose] at hwithin
      rw [← hframe.params] at hcounts hfuel
      obtain ⟨n, u, hloop, hu, hsteps⟩ := ih (acc + t.cycles) t (hframe.attached.trans hc) hidle' hcounts hnext (by omega)
      exact ⟨n + 1, u, hloop, hu, hsteps.succ hwithin rfl⟩
    · have hclose : closeStep (t.setSeq ⟨true, acc⟩) = endFrame t :=
        (if_neg hnext).trans (congrArg endFrame (setSeq_eq_self hidle'))
      rw [hclose] at hwithin
      exact ⟨1, t, frameLoop_atBudget _ (not_lt.1 hnext), hidle', .one hwithin⟩

/-- Settles O52: the first step starts the frame that `runOneFrame()` runs; its loop is the steps up to the frame's end. -/
theorem stepsMakeOneFrame : Obligations.StepsMakeOneFrame := by
  intro s hc hidle hbudget hcounts
  obtain ⟨n, t, hloop, ht, hsteps⟩ := frameLoop_steps s.params.cyclesPerFrame 0 (clearVBlank s) hc hidle hcounts hbudget
    (Nat.zero_add _).ge
  have hrunning : s.seq.running = false := congrArg Sequencer.running hidle
  have hstart : startFrame s = (clearVBlank s).setSeq ⟨true, 0⟩ := if_neg (by rw [hrunning]; exact Bool.false_ne_true)
  rw [← hstart] at hsteps
  have hfirst := hsteps.of_step_eq (step_startFrame hc hrunning).symm
  exact ⟨n, endFrame t, hfirst.positive, runOneFrame_next hc hloop, hfirst.last, (endFrame_seq t).trans ht, hfirst.inside⟩

end Sys2Proof.Proofs
end
